-- ==== Sys2Proof/Word.lean ====
section
/-!
DEFINITION. Word.lean: the word types of the 416's wires. Every record, frame and tag is a run of bytes,
high byte first (Conventions, "Byte order"); counts and indexes are plain numbers.
-/
namespace Sys2Proof

/-- One byte of a wire. -/
abbrev Byte := BitVec 8

/-- A two-byte field: the protection channel word and the 16-bit parameters. -/
abbrev Word16 := BitVec 16

/-- A four-byte field: cord identifiers, seconds counts and gate counts. -/
abbrev Word32 := BitVec 32

/-- One of the 16 lines L0 to L15; also its slot and its line port. -/
abbrev LineIx := Fin 16

/-- One of the eight protection groups G0 to G7. -/
abbrev GroupIx := Fin 8

/-- One of the six timing candidates; index `i` is the manual's candidate `i + 1` (SC1, SC2, LR1 to LR4). -/
abbrev CandIx := Fin 6

/-- A working channel of a group; index `i` is the manual's channel `i + 1`. -/
abbrev ChanIx := Fin 6

end Sys2Proof
end

