-- ==== Sys2Proof/Config.lean ====
section
/-!
DEFINITION. Config.lean: what is fixed for the part (capacities and limits), and the free values, which the
manual leaves open and nothing in this model can evaluate.
-/
namespace Sys2Proof.Config

/-- R163: the event queues of Ports A and B hold up to 64 events. -/
def ctrlQueueCap : Nat := 64

/-- R163: the event queue of Port C holds up to 16 events. -/
def craftQueueCap : Nat := 16

/-- R124: the alarm table holds up to 48 ordinary entries. -/
def alarmCap : Nat := 48

/-- R160: a READ EVENTS response has 58 bytes for records. -/
def eventSpace : Nat := 58

/-- R95, R112: the greatest magnitude of an offset Q and of the steering word S. -/
def fullScale : Nat := 32767

/-- R113: the greatest magnitude of the holdover average H. -/
def holdoverScale : Nat := 8388352

/-- R115: the holdover age count stops at 72 hours. -/
def ageCap : Nat := 259200

/-- The free values. `freeNat n site` is the value met at the place `site` of the manual when `State.free` stands
at `n`. It has no body: nothing is known of it. DESIGN CHOICE (log entry 1). -/
opaque freeNat : Nat → Nat → Nat

/-- The places where the manual leaves a value or an order open; each names its own free value. -/
inductive Site where
  /-- R95/R101: periods counted so far by a gate in flight. -/
  | gatePeriods
  /-- R101: oscillator count so far of a gate in flight. -/
  | gateCount
  /-- R148: cadence ticks elapsed in the active step. -/
  | stepTicks
  /-- R53, R67: the code sent for the source of an IDLE winner, which has no source. -/
  | idleSource
  /-- R84: the word sent as "last counted word" while there is none. -/
  | noCountedWord
  /-- R41: the window and the seconds remaining reported for a port with no move open. -/
  | noMoveWindow
  /-- R41: the outcome reported for an empty outcome run. -/
  | noOutcome
  /-- R41: the MISMATCH detail reported for a port in another state. -/
  | noDetail
  /-- R148: the active step reported while the engine is IDLE. -/
  | noStep
  /-- R120: the issuer reported for a slot that holds NONE. -/
  | noIssuer
  /-- R41: how the crossed condition is reported for a line in no group. -/
  | noGroup
  /-- R41: the seconds remaining reported for a port with no locate active. -/
  | noLocate
  /-- R59: which comes first, a record's change of its line or the end of a zero hold-off at that record. -/
  | recordOrder
  /-- R59: which comes first at a 100 ms tick, the lines' bin closings or the ends of hold-offs. -/
  | holdOffOrder
  /-- R138: whether the Alarm Table restarts before the Cabling Verifier. -/
  | restartOrder
  /-- R138: how many hand-overs of the restart are taken before the refill pass. -/
  | restartBefore
  /-- R165: how many hand-overs of the restart are taken after the refill pass and within the restart. -/
  | restartAfter
  /-- R85: which comes first at an instant with a 100 ms tick, that tick's work or the 1 ms tick's. -/
  | tickOrder
  /-- R85: which comes first at an instant with a 1 s tick, that tick's work or the 100 ms tick's. -/
  | secondOrder
  /-- R14: which comes first at a 100 ms tick, a line's bin closing or its soak sample. -/
  | sampleOrder (line : Nat)
  /-- R82: which comes first when a group's agreement wait and its trial wait end at one 1 ms tick. -/
  | waitOrder (group : Nat)
  /-- R2, R79: which comes first at a 1 ms tick, a scan start's latch or the ends of the waits of R81 and R82. -/
  | latchOrder
  /-- R64: which comes first at a 1 s tick, the lines' bin closings or the counts of the restore waits. -/
  | restoreOrder
  deriving DecidableEq, Repr

/-- The number under which a site asks for its free value. -/
def Site.code : Site → Nat
  | gatePeriods => 0
  | gateCount => 1
  | stepTicks => 2
  | idleSource => 3
  | noCountedWord => 4
  | noMoveWindow => 5
  | noOutcome => 6
  | noDetail => 7
  | noStep => 8
  | noIssuer => 9
  | noGroup => 10
  | noLocate => 11
  | recordOrder => 12
  | holdOffOrder => 13
  | restartOrder => 14
  | restartBefore => 15
  | restartAfter => 16
  | tickOrder => 17
  | secondOrder => 18
  | sampleOrder l => 32 + l
  | waitOrder g => 48 + g
  | latchOrder => 19
  | restoreOrder => 20

/-- The free value of a site when the state's free counter stands at `n`. -/
def free (n : Nat) (site : Site) : Nat := freeNat n site.code

end Sys2Proof.Config
end

