-- ==== Sys2Proof/Syntax.lean ====
section
/-!
DEFINITION. Syntax.lean: the commands of the 416, one constructor of `Instr` for each row of spec/opcode_table.json.

A command that arrives in a link frame carries the port it arrives on and its parameter bytes as Section 11.5 lays
them out, unchecked: the owning block makes its checks (R153, R169). Events of the pins and of the Time Base, and the
hand-overs between the blocks, carry the line, group, candidate or value they concern.
-/
namespace Sys2Proof

/-- The three link ports (Section 9). -/
inductive LinkPort where
  | a | b | c
  deriving DecidableEq, Repr

/-- The two controller ports, which have a select line (R150). -/
inductive CtrlPort where
  | a | b
  deriving DecidableEq, Repr

/-- A controller port as a link port. -/
def CtrlPort.link : CtrlPort → LinkPort
  | .a => .a
  | .b => .b

/-- The eight raw conditions of a line (R7), each with its integrated condition (R14). -/
inductive Cond where
  | lol | lfa | ffi | rfi | exc | sd | cardAbsent | cardUnreadable
  deriving DecidableEq, Repr

/-- The three ways a tag read fails (R26). -/
inductive TagFailure where
  | noResponse | checkFail | busNoise
  deriving DecidableEq, Repr

/-- The alarm types whose object is a line, codes 1 to 15 of R122. -/
inductive LineAlarm where
  | lineLol | lineLfa | lineFfi | lineRfi | lineExc | lineSd | cardAbsent | cardUnreadable | selectorFault
  | cableMissing | cableUnexpected | cableMismatch | cableSwapped | cableUnreadable | moveExpired
  deriving DecidableEq, Repr

/-- The alarm types whose object is a group, codes 16 to 18 of R122. -/
inductive GroupAlarm where
  | protocolFault | modeMismatch | groupCrossed
  deriving DecidableEq, Repr

/-- The alarm types of the shelf that a holder hands over, codes 20 to 23 of R122. -/
inductive ShelfAlarm where
  | clockHoldover | clockFreeRun | holdoverAged | steerLimit
  deriving DecidableEq, Repr

/-- An alarm type on one object (R122). TABLE_FULL is not among them: the Alarm Table forms it itself. -/
inductive Alarm where
  | line (t : LineAlarm) (l : LineIx)
  | group (t : GroupAlarm) (g : GroupIx)
  | refDisqualified (c : CandIx)
  | shelf (t : ShelfAlarm)
  deriving DecidableEq, Repr

/-- The kinds of change offered to the Office Alarm Unit (R136). -/
inductive OfferKind where
  | raise | rise | fall | clear | acknowledgement | removal
  deriving DecidableEq, Repr

/-- One change of an offer to the Office Alarm Unit: the entry it names (`none` is the fixed TABLE_FULL entry) and
the kind of change (R136). -/
structure OfferItem where
  kind  : OfferKind
  alarm : Option Alarm
  deriving DecidableEq, Repr

/-- The two chirps (R146). -/
inductive Chirp where
  | ack | move
  deriving DecidableEq, Repr

/-- The parameter bytes of LINE SETUP in its line form (11.5). -/
structure LineSetupParams where
  line      : Byte
  equipped  : Byte
  soakRaise : Byte
  soakClear : Byte
  excSet    : Word16
  excClear  : Word16
  sdSet     : Word16
  sdClear   : Word16
  deriving DecidableEq, Repr

/-- The parameter bytes of GROUP SETUP in its configure form (11.5). -/
structure GroupSetupParams where
  group       : Byte
  arch        : Byte
  direction   : Byte
  revertive   : Byte
  prot        : Byte
  count       : Byte
  working     : Vector Byte 6
  holdOff     : Byte
  restoreWait : Word16
  timeout     : Byte
  deriving DecidableEq, Repr

/-- The parameter bytes of CANDIDATE SETUP (11.5). -/
structure CandidateSetupParams where
  cand        : Byte
  enabled     : Byte
  sourceKind  : Byte
  lineOrGroup : Byte
  channel     : Byte
  priority    : Byte
  quality     : Byte
  deriving DecidableEq, Repr

/-- The parameter bytes of CLOCK SETUP (11.5). -/
structure ClockSetupParams where
  gateExp         : Byte
  qualifyLimit    : Word16
  disqualifyLimit : Word16
  qualifyCount    : Byte
  gainShift       : Byte
  averageShift    : Byte
  lockThreshold   : Word16
  unlockThreshold : Word16
  freeRun         : Word16
  pullSign        : Byte
  shelfQuality    : Byte
  holdoverQuality : Byte
  revertive       : Byte
  ageLimit        : Byte
  deriving DecidableEq, Repr

/-- The parameter bytes of CADENCE LOAD in its descriptor form, after the form byte (11.5). -/
structure DescriptorParams where
  desc   : Byte
  start  : Byte
  length : Byte
  mode   : Byte
  tone   : Byte
  tempo  : Byte
  deriving DecidableEq, Repr

/-- One step of a CADENCE LOAD step form: kind, duration, tie (11.5). -/
structure RawStep where
  kind     : Byte
  duration : Byte
  tie      : Byte
  deriving DecidableEq, Repr

/-- The commands and events of the 416, one constructor per row of spec/opcode_table.json, in the table's order. -/
inductive Instr where
  | powerOnReset
  | shelfRestart (p : LinkPort)
  | lineSetupShelfForm (p : LinkPort) (interval : Byte)
  | lineSetupLineForm (p : LinkPort) (x : LineSetupParams)
  | cableExpectShelfForm (p : LinkPort) (slot : Word16)
  | cableExpectPortForm (p : LinkPort) (port kind : Byte) (cord : Word32) (end_ cls : Byte)
  | groupSetupConfigureForm (p : LinkPort) (x : GroupSetupParams)
  | groupSetupRemoveForm (p : LinkPort) (group : Byte)
  | groupServiceIn (p : LinkPort) (group : Byte)
  | groupServiceOut (p : LinkPort) (group : Byte)
  | candidateSetup (p : LinkPort) (x : CandidateSetupParams)
  | clockSetup (p : LinkPort) (x : ClockSetupParams)
  | severitySetup (p : LinkPort) (type sa nsa : Byte)
  | cadenceLoadStepForm (p : LinkPort) (first : Byte) (steps : List RawStep)
  | cadenceLoadDescriptorForm (p : LinkPort) (x : DescriptorParams)
  | queueSetup (p : LinkPort) (port threshold : Byte)
  | timeSet (p : LinkPort) (seconds : Word32)
  | protectionRequest (p : LinkPort) (group kind channel : Byte)
  | protectionRequestClear (p : LinkPort) (group : Byte)
  | clockRequest (p : LinkPort) (kind cand : Byte)
  | candidateLockout (p : LinkPort) (cand kind : Byte)
  | cableMove (p : LinkPort) (port : Byte) (cord : Word32) (end_ cls window : Byte)
  | cableMoveCancel (p : LinkPort) (port : Byte)
  | locateOn (p : LinkPort) (port : Byte) (duration : Word16)
  | locateOff (p : LinkPort) (port : Byte)
  | alarmAcknowledgeIndex (p : LinkPort) (index : Byte)
  | alarmAcknowledgeSeverity (p : LinkPort) (severity : Byte)
  | alarmAcknowledgeAll (p : LinkPort)
  | alarmCutoff (p : LinkPort)
  | readEvents (p : LinkPort) (n : Byte)
  | readLine (p : LinkPort) (line : Byte)
  | readCable (p : LinkPort) (port : Byte)
  | readGroup (p : LinkPort) (group part : Byte)
  | readClock (p : LinkPort)
  | readCandidate (p : LinkPort) (cand : Byte)
  | readAlarms (p : LinkPort) (start : Byte)
  | readOffice (p : LinkPort) (part first : Byte)
  | badFrame (p : LinkPort) (frame : List Byte)
  | selectAssert (p : CtrlPort)
  | selectRelease (p : CtrlPort)
  | uartError
  | frameGapTimeout
  | quietPeriodEnd
  | responseSent
  | tick1ms (acoPin : Bool)
  | tick100ms
  | tick1s
  | excClear (l : LineIx)
  | integratedRaise (l : LineIx) (c : Cond)
  | integratedClear (l : LineIx) (c : Cond)
  | connectorPresenceAccepted (l : LineIx)
  | scanStart
  | inboundRecord (l : LineIx) (record : Vector Byte 7)
  | pollSlotExpiry
  | tagReadResult (tag : Vector Byte 6)
  | tagReadFailure (f : TagFailure)
  | moveWindowExpiry (l : LineIx)
  | locateTimerExpiry (l : LineIx)
  | moveOpenedNotice (l : LineIx)
  | moveClosedNotice (l : LineIx)
  | crossedConditionChange (g : GroupIx)
  | lineSummaryChange (l : LineIx)
  | holdOffExpiry (g : GroupIx) (k : ChanIx)
  | restoreWaitExpiry (g : GroupIx)
  | agreementWaitExpiry (g : GroupIx)
  | trialWaitExpiry (g : GroupIx)
  | selectionOffer (g : GroupIx)
  | lineDefectChange (l : LineIx)
  | cablingStateOffer (l : LineIx)
  | activityWindowExpiry (c : CandIx)
  | gateStartEdge (c : CandIx)
  | gateComplete (c : CandIx) (count : Word32)
  | candidateOffer (c : CandIx)
  | resolvedLineOffer (c : CandIx)
  | qOffer (c : CandIx) (q : Int)
  | holdoverAgeLimit
  | steerFrameStart
  | alarmConditionRaise (x : Alarm)
  | alarmConditionClear (x : Alarm)
  | coverageChange (l : LineIx) (covered : Bool)
  | officeOffer (items : List OfferItem)
  | chirpRequest (ch : Chirp)
  | cadenceStepEnd
  | pushbuttonPress
  | pushbuttonRelease
  | portCByteReceived (b : Byte)
  deriving DecidableEq, Repr

end Sys2Proof
end

