-- ==== Sys2Proof/Machine/State.lean ====
section
/-!
DEFINITION. Machine/State.lean: every piece of state the manual gives the 416, block by block, as plain data; the
reasons a step can stop; and the state right after a power-on reset. INVENTORY.md lists each field with its rule.
-/
namespace Sys2Proof.Machine

/-! ## Why a step stops -/

/-- The reasons a step stops with a fault. The manual gives none: every command has an effect in every state, and a
command the 416 turns away is answered with a status (R154). The type has no constructor. -/
inductive Fault where
  deriving DecidableEq, Repr

/-- The reasons a step is refused. -/
inductive Refusal where
  /-- Raised by `exec` for a command that has no meaning in this model. Safe: nothing is claimed of it. No arm raises it
  at present. -/
  | notModelled (mnemonic : String)
  deriving DecidableEq, Repr

/-! ## Section 1: line scan and line monitoring -/

/-- R6: the card presence value. -/
inductive CardPresence where
  | unknown | present | absent
  deriving DecidableEq, Repr

/-- 11.2: the select command of an outbound record. -/
inductive SelectCmd where
  | hold | own | protection
  deriving DecidableEq, Repr

/-- 11.2: the bridge command of an outbound record. -/
inductive BridgeCmd where
  | hold | none | channel (k : ChanIx)
  deriving DecidableEq, Repr

/-- R18: the lamp code. -/
inductive Lamp where
  | off | green | amber | red | locateFlash
  deriving DecidableEq, Repr

/-- The fields of an inbound record as the Line Monitor reads them (R6, R167). -/
structure InRecord where
  cardPresent : Bool
  connPresent : Bool
  lol         : Bool
  lfa         : Bool
  ffi         : Bool
  rfi         : Bool
  pcwValid    : Bool
  echoBridge  : BitVec 4
  echoSelect  : BitVec 2
  quality     : BitVec 4
  blockErrors : Byte
  word        : Word16
  deriving DecidableEq, Repr

/-- The fields of an outbound record (R2). -/
structure OutRecord where
  bridge  : BridgeCmd
  select  : SelectCmd
  lamp    : Lamp
  quality : Nat
  word    : Word16
  deriving DecidableEq, Repr

/-- One value for each of the eight conditions of a line. -/
structure PerCond (α : Type) where
  lol            : α
  lfa            : α
  ffi            : α
  rfi            : α
  exc            : α
  sd             : α
  cardAbsent     : α
  cardUnreadable : α
  deriving DecidableEq, Repr

/-- R14: the raise counter, the clear counter and the integrated condition of one raw condition. -/
structure Soak where
  raiseCount : Nat
  clearCount : Nat
  integrated : Bool
  deriving DecidableEq, Repr

/-- R19: the settings of one line. Soak-raise in 100 ms ticks, soak-clear in seconds. -/
structure LineSettings where
  equipped  : Bool
  soakRaise : Nat
  soakClear : Nat
  excSet    : Nat
  excClear  : Nat
  sdSet     : Nat
  sdClear   : Nat
  deriving DecidableEq, Repr

/-- All the state of one line in the Line Scan Controller and the Line Monitor. -/
structure Line where
  settings     : LineSettings
  presence     : CardPresence
  badCount     : Nat
  raw          : PerCond Bool
  excBin       : Nat
  lastExcBin   : Nat
  clearRun     : Nat
  sdBin        : Nat
  ring         : List Nat
  soak         : PerCond Soak
  connAccepted : Bool
  connCount    : Nat
  mismatchRun  : Nat
  selectorFault : Bool
  lastGood     : InRecord
  out          : OutRecord
  prevOut      : OutRecord
  deriving DecidableEq, Repr

/-- The scan interval (R1), its count in 1 ms ticks, and the scan in flight: the slot whose record comes next (R3). -/
structure ScanState where
  interval : Nat
  count    : Nat
  next     : Option LineIx
  deriving DecidableEq, Repr

/-! ## Section 2: cabling verification -/

/-- The two ends of a cord. -/
inductive CordEnd where
  | a | b
  deriving DecidableEq, Repr

/-- A cord as an expectation or a tag names it: identifier, end and fibre class. -/
structure Cord where
  id  : Word32
  fin : CordEnd
  cls : Nat
  deriving DecidableEq, Repr

/-- 2.1: an entry's kind, with its expected cord for PLANNED. -/
inductive Expectation where
  | unplanned | vacant | planned (c : Cord)
  deriving DecidableEq, Repr

/-- 2.4: the detail of MISMATCH. -/
inductive MismatchDetail where
  | foreign | wrongEnd | wrongClass | blank
  deriving DecidableEq, Repr

/-- 2.4: the ten cabling states, with MISMATCH detail and SWAPPED partner. -/
inductive CableState where
  | unplanned | unverified | agreed | vacantOk | missing | unexpected
  | mismatch (d : MismatchDetail) | swapped (partner : LineIx) | unreadable | moving
  deriving DecidableEq, Repr

/-- R28: the outcome of a read result. -/
inductive TagOutcome where
  | agree | wrongEnd | wrongClass | blank | foreign | elsewhere (partner : LineIx) | other | notYet
  deriving DecidableEq, Repr

/-- R35: an open move: the pending expectation, the window in minutes and the window timer in seconds. -/
structure Move where
  pending : Cord
  window  : Nat
  elapsed : Nat
  deriving DecidableEq, Repr

/-- R39: an active locate: its duration and its timer, in seconds. -/
structure Locate where
  duration : Nat
  elapsed  : Nat
  deriving DecidableEq, Repr

/-- All the state of one line port in the Cabling Verifier. The move open flag is set exactly while `move` holds one. -/
structure CablePort where
  expect   : Expectation
  move     : Option Move
  agreeRun : Nat
  state    : CableState
  /-- R30: the outcome run; `none` is a run of 0. -/
  run      : Option (TagOutcome × Nat)
  failed   : Nat
  lastTag  : Cord
  locate   : Option Locate
  deriving DecidableEq, Repr

/-- The Cabling Verifier: the 16 ports, and the poll state (R23 to R26). -/
structure Cabling where
  ports      : Vector CablePort 16
  pollSlot   : Nat
  pollCount  : Nat
  roundRobin : LineIx
  outOfTurn  : List LineIx
  /-- The port of the tag read in flight (R26). -/
  read       : Option LineIx
  deriving DecidableEq, Repr

/-! ## Sections 3 and 4: protection -/

inductive Architecture where
  | onePlusOne | oneToN
  deriving DecidableEq, Repr

/-- R51: the request classes. -/
inductive ReqClass where
  | lockout | protFail | force | signalFail | signalDegrade | manual | restoreWait | trial | holdSwitched | idle
  deriving DecidableEq, Repr

/-- R51: the source of an entry. -/
inductive ReqSource where
  | port (p : LinkPort) | cabling | automatic
  deriving DecidableEq, Repr

/-- R51: an entry of a request list; channel 0 to 6; for CABLING the member line it stands for. -/
structure ReqEntry where
  cls    : ReqClass
  chan   : Nat
  source : ReqSource
  line   : Option LineIx
  deriving DecidableEq, Repr

/-- R52: a winning request; IDLE has no source. -/
structure Winner where
  cls    : ReqClass
  chan   : Nat
  source : Option ReqSource
  deriving DecidableEq, Repr

/-- R76: an effective request; `isLocal` is the origin, LOCAL or FAR_END. -/
structure EffRequest where
  cls     : ReqClass
  chan    : Nat
  isLocal : Bool
  deriving DecidableEq, Repr

/-- R59: the channel condition. -/
inductive ChanCond where
  | none | sd | sf
  deriving DecidableEq, Repr

/-- R59: a channel's condition and its hold-off timer (`none` is stopped). The timer counts 100 ms ticks; with a
hold-off of 0 it counts the inbound records of the channel's line and ends at the first. -/
structure Chan where
  cond : ChanCond
  hold : Option Nat
  deriving DecidableEq, Repr

/-- R80: the signal state. -/
inductive SignalState where
  | quiet | requesting | switched | releasing
  deriving DecidableEq, Repr

/-- R71: the far-end tracker. `received` is the origin, RECEIVED or DEFAULT. -/
structure Tracker where
  last     : Option Word16
  run      : Nat
  accepted : Word16
  received : Bool
  deriving DecidableEq, Repr

/-- The record of a configured group (3.1, R83). -/
structure Group where
  arch        : Architecture
  bidir       : Bool
  revertive   : Bool
  prot        : LineIx
  working     : List LineIx
  /-- Hold-off in 100 ms steps. -/
  holdOff     : Nat
  /-- Restore wait in seconds. -/
  restoreTime : Nat
  /-- Protocol timeout in 10 ms steps. -/
  timeout     : Nat
  inService   : Bool
  list        : List ReqEntry
  chans       : Vector Chan 6
  /-- The restore-wait timer, in seconds. -/
  restoreWait : Option Nat
  crossed     : Bool
  /-- The winner after the previous resolution (R53, step 4). -/
  lastWinner  : Winner
  eff         : EffRequest
  bridged     : Nat
  selected    : Nat
  signal      : SignalState
  tracker     : Tracker
  mismatch    : Bool
  protoFault  : Bool
  /-- R75: the own-request record, each a class and a channel. -/
  own         : List (ReqClass × Nat)
  /-- The agreement wait, in milliseconds. -/
  agreeWait   : Option Nat
  /-- The trial wait, in milliseconds. -/
  trialWait   : Option Nat
  deriving DecidableEq, Repr

/-- R79: the outbound fields the Protection Controller holds for one line. -/
structure LineCmd where
  bridge : BridgeCmd
  select : SelectCmd
  word   : Word16
  deriving DecidableEq, Repr

/-- The Protection Controller: the groups, the outbound fields and the coverage of each line (R65; true is COVERED). -/
structure Protection where
  groups  : Vector (Option Group) 8
  out     : Vector LineCmd 16
  covered : Vector Bool 16
  deriving DecidableEq, Repr

/-! ## Section 5: time base and reference measurement -/

/-- The tick cascade (R85), in whole ticks, and the seconds counter (R86). -/
structure TimeBase where
  /-- 1 ms ticks since the last 100 ms tick. -/
  millis  : Nat
  /-- 100 ms ticks since the last 1 s tick. -/
  tenths  : Nat
  seconds : Word32
  deriving DecidableEq, Repr

/-- 5.2: the source of a candidate. -/
inductive CandSource where
  | none | station | line (l : LineIx) | group (g : GroupIx) (k : ChanIx)
  deriving DecidableEq, Repr

/-- 5.7: the qualification states. -/
inductive CandState where
  | unused | disqualified | qualifying | qualified
  deriving DecidableEq, Repr

/-- 5.4: the reason set. -/
structure Reasons where
  activity   : Bool
  offset     : Bool
  lineDefect : Bool
  cabling    : Bool
  source     : Bool
  deriving DecidableEq, Repr

/-- The record of one timing candidate (5.2). -/
structure Candidate where
  enabled  : Bool
  source   : CandSource
  priority : Nat
  defQual  : Nat
  lockout  : Bool
  resolved : Option LineIx
  state    : CandState
  reasons  : Reasons
  goodRun  : Nat
  lastQ    : Int
  /-- A gate is in flight (R93). -/
  gate     : Bool
  /-- The 64 us activity window is running (R92). -/
  window   : Bool
  /-- Effective quality and eligibility as last formed (R100). -/
  effQual  : Nat
  eligible : Bool
  deriving DecidableEq, Repr

/-- The Reference Monitor: the candidates and the shared settings (R88). -/
structure RefMonitor where
  cands           : Vector Candidate 6
  gateExp         : Nat
  qualifyLimit    : Nat
  disqualifyLimit : Nat
  qualifyCount    : Nat
  deriving DecidableEq, Repr

/-! ## Section 6: the Clock Controller -/

/-- 6.1: the loop states. -/
inductive LoopState where
  | freeRun | acquiring | locked | holdover
  deriving DecidableEq, Repr

/-- R107: the kinds of clock request. -/
inductive ClockReq where
  | none | forceRef (c : CandIx) | forceHoldover
  deriving DecidableEq, Repr

/-- R104: the Clock Controller's settings. `positive` is the pull sign. -/
structure ClockSettings where
  gainShift       : Nat
  averageShift    : Nat
  lockThreshold   : Nat
  unlockThreshold : Nat
  freeRun         : Int
  positive        : Bool
  shelfQuality    : Nat
  holdoverQuality : Nat
  revertive       : Bool
  ageHours        : Nat
  deriving DecidableEq, Repr

/-- R119: the four clock conditions. -/
structure ClockConds where
  holdover   : Bool
  freeRun    : Bool
  aged       : Bool
  steerLimit : Bool
  deriving DecidableEq, Repr

/-- The Clock Controller (6.1). -/
structure Clock where
  loop       : LoopState
  selected   : Option CandIx
  steer      : Int
  average    : Int
  history    : Nat
  lockRun    : Nat
  ageCount   : Nat
  aged       : Bool
  steerLimit : Bool
  slot       : ClockReq
  issuer     : Option LinkPort
  lastLocked : Nat
  ownQual    : Nat
  /-- R117: the feeding line. -/
  feeding    : Option LineIx
  /-- R118: the high count of the steering frame in progress. -/
  highCount  : Nat
  settings   : ClockSettings
  /-- The clock conditions as last handed to the Alarm Table (R119). -/
  handed     : ClockConds
  deriving DecidableEq, Repr

/-! ## Section 7: the Alarm Table -/

/-- R123: the severities, highest first. -/
inductive Severity where
  | critical | major | minor | warning
  deriving DecidableEq, Repr

/-- R124: an ordinary entry. `sa` is the service-affecting flag (true is SA), present for line-object types only. -/
structure AlarmEntry where
  alarm     : Alarm
  severity  : Severity
  active    : Bool
  acked     : Bool
  raisedAt  : Word32
  clearedAt : Option Word32
  count     : Nat
  sa        : Option Bool
  deriving DecidableEq, Repr

/-- R124: the states of the fixed entry. -/
inductive FixedState where
  | idle | active | cleared
  deriving DecidableEq, Repr

/-- R124: the fixed entry for TABLE_FULL on the shelf. -/
structure FixedEntry where
  state     : FixedState
  severity  : Severity
  acked     : Bool
  raisedAt  : Word32
  clearedAt : Option Word32
  count     : Nat
  deriving DecidableEq, Repr

/-- R123: the two severities of a type. -/
structure Grade where
  sa  : Severity
  nsa : Severity
  deriving DecidableEq, Repr

/-- The Alarm Table: entries, fixed entry, severity profile (index is type code less 1) and line grading records. -/
structure AlarmTable where
  entries : List AlarmEntry
  fixed   : FixedEntry
  profile : Vector Grade 24
  grading : Vector Bool 16
  deriving DecidableEq, Repr

/-! ## Section 8: the Office Alarm Unit -/

/-- R143: a step of the pattern memory; `tone` false is REST. -/
structure CadStep where
  tone     : Bool
  duration : Nat
  tie      : Bool
  deriving DecidableEq, Repr

/-- R143: the five pattern descriptors. -/
inductive DescIx where
  | critical | major | minor | ackChirp | moveChirp
  deriving DecidableEq, Repr

/-- R143: a pattern descriptor; `loops` is mode REPEAT. -/
structure Descriptor where
  start  : Fin 32
  length : Nat
  loops  : Bool
  tone   : Nat
  tempo  : Nat
  deriving DecidableEq, Repr

/-- The active step, with the tone word and tempo it was started with. -/
structure ActiveStep where
  index : Fin 32
  step  : CadStep
  tone  : Nat
  tempo : Nat
  deriving DecidableEq, Repr

/-- The Office Alarm Unit. -/
structure Office where
  relayCrit : Bool
  relayMaj  : Bool
  relayMin  : Bool
  /-- The ACO severity; `none` while ACO is OFF. -/
  aco       : Option Severity
  required  : Option DescIx
  /-- The descriptor being played; `none` while the engine is IDLE. -/
  playing   : Option DescIx
  active    : Option ActiveStep
  buffer    : Option (Fin 32 × CadStep)
  fetchPos  : Nat
  /-- R147: a restart of the descriptor being played is marked. -/
  restart   : Bool
  memory    : Vector CadStep 32
  descs     : Vector Descriptor 5
  /-- The accepted level of ACO_PB*; true is high. -/
  buttonHigh  : Bool
  buttonCount : Nat
  deriving DecidableEq, Repr

/-! ## Section 9: the Link Ports -/

/-- R154: the statuses. -/
inductive Status where
  | ok | okClamped | checkFail | unknownCommand | badLength | outOfRange | notPermitted | outranked | notIssuer
  | groupInService | memberConflict | duplicateCord | busy | notConfigured
  deriving DecidableEq, Repr

/-- A response: its status and its result bytes (R154). -/
structure Response where
  status  : Status
  results : List Byte
  deriving DecidableEq, Repr

/-- R161: the object of an event. -/
inductive Object where
  | shelf | line (l : LineIx) | group (g : GroupIx) | cand (c : CandIx)
  deriving DecidableEq, Repr

/-- R82: the detail of a PROT_REQUEST event. -/
inductive TrialDetail where
  | none | pass | fail
  deriving DecidableEq, Repr

/-- Who cleared an external request (R56). -/
inductive Clearer where
  | port (p : LinkPort) | service
  deriving DecidableEq, Repr

/-- R141, R142: the cause of an ACO_STATE event. -/
inductive AcoCause where
  | command (p : LinkPort) | pushbutton | raise | rise | noneLeft
  deriving DecidableEq, Repr

/-- R161: the fifteen kinds of event with their details (11.6). The object of an alarm event is its alarm's; `none` is
TABLE_FULL. -/
inductive EventBody where
  | partStart (restart : Bool)
  | resync
  | alarmRaised (alarm : Option Alarm) (severity : Severity) (sa : Option Bool) (count index : Nat)
  | alarmCleared (alarm : Option Alarm) (severity : Severity) (sa : Option Bool)
  | alarmSeverity (alarm : Option Alarm) (previous new : Severity) (sa : Option Bool)
  | alarmNotRecorded (alarm : Alarm) (severity : Severity) (sa : Option Bool)
  | protSwitched (g : GroupIx) (new previous bridged : Nat) (cls : ReqClass) (chan : Nat)
  | protRequest (g : GroupIx) (cls : ReqClass) (chan : Nat) (source : Option ReqSource) (detail : TrialDetail)
  | requestPreempted (g : GroupIx) (issuer : LinkPort) (cls : ReqClass) (chan : Nat) (byCls : ReqClass) (bySource : Option ReqSource)
  | clockPreempted (issuer : LinkPort) (old new : ClockReq) (by_ : LinkPort)
  | requestClearedByOther (g : GroupIx) (issuer : LinkPort) (cls : ReqClass) (chan : Nat) (by_ : Clearer)
  | cableState (l : LineIx) (state : CableState)
  | moveDone (l : LineIx) (cord : Word32)
  | refState (c : CandIx) (state : CandState) (reasons : Reasons) (resolved : Option LineIx) (q : Int)
  | clockState (loop : LoopState) (aged steerLimit : Bool) (selected : Option CandIx) (own : Nat) (feeding : Option LineIx) (steer : Int)
  | acoState (severity : Option Severity) (cause : AcoCause)
  deriving DecidableEq, Repr

/-- R161: an event record: its timestamp and its kind with object and detail. -/
structure Event where
  time : Word32
  body : EventBody
  deriving DecidableEq, Repr

/-- R163, R164: a port's event queue, overrun flag, threshold and service request (asserted is true). -/
structure EventQueue where
  events    : List Event
  overrun   : Bool
  threshold : Nat
  srq       : Bool
  deriving DecidableEq, Repr

/-- R150, R151: how far the exchange of a controller port has come. `released` until select is next asserted; `listening`,
with the frame's bytes so far, until its check byte; `answered` from there until select is released. -/
inductive Exchange where
  | released | listening (bytes : List Byte) | answered
  deriving DecidableEq, Repr

/-- R152: the Port C receiver. RECEIVING keeps the frame's bytes so far; ANSWERING whether a byte was discarded;
SKIPPING whether a CHECK_FAIL is owed. -/
inductive Receiver where
  | waiting | receiving (bytes : List Byte) | answering (discarded : Bool) | skipping (owed : Bool)
  deriving DecidableEq, Repr

/-- The Link Ports: three queues, three response buffers of one response, two exchanges and the Port C receiver. -/
structure Links where
  queueA    : EventQueue
  queueB    : EventQueue
  queueC    : EventQueue
  responseA : Option Response
  responseB : Option Response
  responseC : Option Response
  exchangeA : Exchange
  exchangeB : Exchange
  receiver  : Receiver
  deriving DecidableEq, Repr

/-! ## The whole machine -/

/-- The state of the 416. `free`, `fired`, `due` and `pending` are the model's own: the counter of free values, the timed
events that the last tick took with it (log entry 6), the hand-overs of a shelf restart still to be taken (R165), and the
queue of commands waiting. -/
structure State where
  time    : TimeBase
  scan    : ScanState
  lines   : Vector Line 16
  cabling : Cabling
  prot    : Protection
  ref     : RefMonitor
  clock   : Clock
  alarms  : AlarmTable
  office  : Office
  links   : Links
  free    : Nat
  fired   : List Instr
  due     : List Instr
  pending : List Instr
  deriving DecidableEq, Repr

/-! ## Values after a power-on reset -/

/-- R69: the IDLE word. -/
def idleWord : Word16 := 0x0001#16

/-- 1.9: the last good record after a power-on reset, all fields zero. -/
def InRecord.zero : InRecord :=
  { cardPresent := false, connPresent := false, lol := false, lfa := false, ffi := false, rfi := false,
    pcwValid := false, echoBridge := 0#4, echoSelect := 0#2, quality := 0#4, blockErrors := 0#8, word := 0#16 }

/-- 1.9: the outbound image after a power-on reset: HOLD in both selector fields. The other fields are log entry 2. -/
def OutRecord.initial : OutRecord :=
  { bridge := .hold, select := .hold, lamp := .off, quality := 4, word := idleWord }

def PerCond.all {α : Type} (x : α) : PerCond α := ⟨x, x, x, x, x, x, x, x⟩

/-- R12, R15, R19: the default settings of a line. -/
def LineSettings.default : LineSettings :=
  { equipped := false, soakRaise := 25, soakClear := 10, excSet := 2000, excClear := 200, sdSet := 500, sdClear := 50 }

/-- 1.9: a line after a power-on reset. -/
def Line.initial : Line :=
  { settings := LineSettings.default, presence := .unknown, badCount := 0, raw := PerCond.all false, excBin := 0,
    lastExcBin := 0, clearRun := 0, sdBin := 0, ring := List.replicate 10 0, soak := PerCond.all ⟨0, 0, false⟩,
    connAccepted := false, connCount := 0, mismatchRun := 0, selectorFault := false, lastGood := InRecord.zero,
    out := OutRecord.initial, prevOut := OutRecord.initial }

/-- R42: a port after a power-on reset. -/
def CablePort.initial : CablePort :=
  { expect := .unplanned, move := none, agreeRun := 0, state := .unplanned, run := none, failed := 0,
    lastTag := ⟨0#32, .a, 0⟩, locate := none }

/-- R102: a candidate after a power-on reset. -/
def Candidate.initial (source : CandSource) (priority defQual : Nat) : Candidate :=
  { enabled := false, source := source, priority := priority, defQual := defQual, lockout := false, resolved := none,
    state := .unused, reasons := ⟨false, false, false, false, false⟩, goodRun := 0, lastQ := 0, gate := false,
    window := false, effQual := defQual, eligible := false }

/-- R104: the default settings of the Clock Controller. -/
def ClockSettings.default : ClockSettings :=
  { gainShift := 3, averageShift := 4, lockThreshold := 20, unlockThreshold := 100, freeRun := 0, positive := true,
    shelfQuality := 4, holdoverQuality := 3, revertive := false, ageHours := 24 }

/-- R121: the Clock Controller after a power-on reset. -/
def Clock.initial : Clock :=
  { loop := .freeRun, selected := none, steer := 0, average := 0, history := 0, lockRun := 0, ageCount := 0,
    aged := false, steerLimit := false, slot := .none, issuer := none, lastLocked := 0, ownQual := 4, feeding := none,
    highCount := 32768, settings := ClockSettings.default, handed := ⟨false, false, false, false⟩ }

/-- R123: the default severity profile, in the order of the type codes 1 to 24. -/
def defaultProfile : Vector Grade 24 :=
  #v[⟨.critical, .minor⟩, ⟨.critical, .minor⟩, ⟨.major, .warning⟩, ⟨.minor, .warning⟩, ⟨.major, .minor⟩,
     ⟨.minor, .warning⟩, ⟨.major, .minor⟩, ⟨.major, .minor⟩, ⟨.major, .major⟩, ⟨.major, .minor⟩, ⟨.minor, .minor⟩,
     ⟨.major, .minor⟩, ⟨.major, .minor⟩, ⟨.minor, .warning⟩, ⟨.minor, .minor⟩, ⟨.major, .major⟩, ⟨.major, .major⟩,
     ⟨.major, .major⟩, ⟨.minor, .minor⟩, ⟨.major, .major⟩, ⟨.major, .major⟩, ⟨.major, .major⟩, ⟨.minor, .minor⟩,
     ⟨.major, .major⟩]

/-- R138: the fixed entry while IDLE. -/
def FixedEntry.idle (severity : Severity) : FixedEntry :=
  { state := .idle, severity := severity, acked := false, raisedAt := 0#32, clearedAt := none, count := 0 }

/-- 8.7: the default pattern memory. -/
def defaultMemory : Vector CadStep 32 :=
  #v[⟨true, 2, false⟩, ⟨false, 2, false⟩, ⟨true, 8, false⟩, ⟨false, 8, false⟩, ⟨true, 2, false⟩, ⟨false, 2, false⟩,
     ⟨true, 2, false⟩, ⟨false, 40, false⟩, ⟨true, 3, true⟩, ⟨true, 2, false⟩, ⟨true, 2, false⟩, ⟨true, 4, true⟩,
     ⟨false, 1, false⟩, ⟨false, 1, false⟩, ⟨false, 1, false⟩, ⟨false, 1, false⟩, ⟨false, 1, false⟩,
     ⟨false, 1, false⟩, ⟨false, 1, false⟩, ⟨false, 1, false⟩, ⟨false, 1, false⟩, ⟨false, 1, false⟩,
     ⟨false, 1, false⟩, ⟨false, 1, false⟩, ⟨false, 1, false⟩, ⟨false, 1, false⟩, ⟨false, 1, false⟩,
     ⟨false, 1, false⟩, ⟨false, 1, false⟩, ⟨false, 1, false⟩, ⟨false, 1, false⟩, ⟨false, 1, false⟩]

/-- 8.7: the default descriptors, in the order CRITICAL, MAJOR, MINOR, ACK-CHIRP, MOVE-CHIRP. -/
def defaultDescs : Vector Descriptor 5 :=
  #v[⟨0, 2, true, 31, 7⟩, ⟨2, 2, true, 39, 7⟩, ⟨4, 4, true, 63, 15⟩, ⟨8, 1, false, 15, 3⟩, ⟨9, 3, false, 23, 3⟩]

/-- R149: the Office Alarm Unit after a power-on reset. -/
def Office.initial : Office :=
  { relayCrit := false, relayMaj := false, relayMin := false, aco := none, required := none, playing := none,
    active := none, buffer := none, fetchPos := 0, restart := false, memory := defaultMemory, descs := defaultDescs,
    buttonHigh := true, buttonCount := 0 }

/-- R166: an event queue after a power-on reset holds PART_START with reason POWER_ON, so its request is asserted. -/
def EventQueue.initial : EventQueue :=
  { events := [⟨0#32, .partStart false⟩], overrun := false, threshold := 1, srq := true }

/-- The 416 right after a power-on reset (R1, R6, R42, R68, R102, R121, R138, R149, R166). -/
def State.reset : State :=
  { time := ⟨0, 0, 0#32⟩
    scan := { interval := 2, count := 0, next := none }
    lines := Vector.replicate 16 Line.initial
    cabling := { ports := Vector.replicate 16 CablePort.initial, pollSlot := 250, pollCount := 0, roundRobin := 15,
                 outOfTurn := [], read := none }
    prot := { groups := Vector.replicate 8 none, out := Vector.replicate 16 ⟨.hold, .hold, idleWord⟩,
              covered := Vector.replicate 16 false }
    ref := { cands := #v[Candidate.initial .station 1 2, Candidate.initial .station 2 2, Candidate.initial .none 3 4,
                         Candidate.initial .none 4 4, Candidate.initial .none 5 4, Candidate.initial .none 6 4],
             gateExp := 1, qualifyLimit := 1500, disqualifyLimit := 1600, qualifyCount := 3 }
    clock := Clock.initial
    alarms := { entries := [], fixed := FixedEntry.idle .major, profile := defaultProfile,
                grading := Vector.replicate 16 false }
    office := Office.initial
    links := { queueA := EventQueue.initial, queueB := EventQueue.initial, queueC := EventQueue.initial,
               responseA := none, responseB := none, responseC := none, exchangeA := .released,
               exchangeB := .released, receiver := .waiting }
    free := 0
    fired := []
    due := []
    pending := [] }

end Sys2Proof.Machine
end

