-- ==== Sys2Proof/Machine/Operands.lean ====
section
/-!
DEFINITION. Machine/Operands.lean: how the 416 reads the fields of what reaches it and lays out what it sends: check
bytes and parity (11.1), scan and tag records (11.2, 11.3), the protection channel word (11.4), parameter bytes (R169),
rounding (R112, R113), codes, event records (11.6) and the packing of read results (R169).
-/
namespace Sys2Proof.Machine

/-! ## Check byte and parity (11.1) -/

/-- One shift of the CRC-8 x^8 + x^2 + x + 1. -/
def crcShift (v : Byte) : Byte := if v.msb then (v <<< 1) ^^^ 0x07#8 else v <<< 1

/-- The running CRC-8 value after one more byte. -/
def crcByte (v b : Byte) : Byte :=
  crcShift (crcShift (crcShift (crcShift (crcShift (crcShift (crcShift (crcShift (v ^^^ b))))))))

/-- The CRC-8 of a run of bytes: initial value 0, no reflection, no final inversion. -/
def crc8 (bs : List Byte) : Byte := bs.foldl crcByte 0#8

/-- The number of ones of a word. -/
def wordOnes (w : Word16) : Nat := (List.range 16).foldl (fun n i => n + (w.getLsbD i).toNat) 0

/-- R69: a protection channel word holds an odd number of ones. -/
def oddParity (w : Word16) : Bool := wordOnes w % 2 == 1

/-! ## Numbers -/

/-- A value clamped to the nearer end of its range. -/
def clamp (lo hi n : Nat) : Nat := max lo (min hi n)

/-- A signed value clamped to −m to +m. -/
def clampInt (m : Nat) (x : Int) : Int := max (-(m : Int)) (min (m : Int) x)

/-- `x / d` rounded to the nearest whole number, ties away from zero (R110, R112). -/
def roundDiv (x : Int) (d : Nat) : Int :=
  if 0 ≤ x then (2 * x + d) / (2 * d) else -((2 * (-x) + d) / (2 * d))

/-- `x / d` rounded down toward minus infinity (R113). -/
def floorDiv (x : Int) (d : Nat) : Int := x / (d : Int)

/-- R169: a byte that holds a flag or a two-way choice must be 0 or 1. -/
def readFlag (b : Byte) : Option Bool := if b = 0#8 then some false else if b = 1#8 then some true else none

/-- A line or port index, 0 to 15. -/
def readLineIx (b : Byte) : Option LineIx := if h : b.toNat < 16 then some ⟨b.toNat, h⟩ else none

/-- A group index, 0 to 7. -/
def readGroupIx (b : Byte) : Option GroupIx := if h : b.toNat < 8 then some ⟨b.toNat, h⟩ else none

/-- A candidate, 1 to 6. -/
def readCandIx (b : Byte) : Option CandIx :=
  if h : 1 ≤ b.toNat ∧ b.toNat ≤ 6 then some ⟨b.toNat - 1, by omega⟩ else none

/-- A working channel, 1 to 6. -/
def readChanIx (b : Byte) : Option ChanIx :=
  if h : 1 ≤ b.toNat ∧ b.toNat ≤ 6 then some ⟨b.toNat - 1, by omega⟩ else none

/-- A pattern memory index, 0 to 31. -/
def readStepIx (b : Byte) : Option (Fin 32) := if h : b.toNat < 32 then some ⟨b.toNat, h⟩ else none

/-- A severity code, 1 to 4 (11.5). -/
def readSeverity (b : Byte) : Option Severity :=
  match b.toNat with
  | 1 => some .critical
  | 2 => some .major
  | 3 => some .minor
  | 4 => some .warning
  | _ => none

/-- An alarm type code, 1 to 24, as an index of the severity profile. -/
def readTypeIx (b : Byte) : Option (Fin 24) :=
  if h : 1 ≤ b.toNat ∧ b.toNat ≤ 24 then some ⟨b.toNat - 1, by omega⟩ else none

/-- A descriptor code (11.5). -/
def readDescIx (b : Byte) : Option DescIx :=
  match b.toNat with
  | 0 => some .critical
  | 1 => some .major
  | 2 => some .minor
  | 3 => some .ackChirp
  | 4 => some .moveChirp
  | _ => none

/-- A link port code (11.5). -/
def readPort (b : Byte) : Option LinkPort :=
  match b.toNat with
  | 0 => some .a
  | 1 => some .b
  | 2 => some .c
  | _ => none

/-- R21: a blank cord identifier. -/
def blankCord (id : Word32) : Bool := id == 0x00000000#32 || id == 0xFFFFFFFF#32

/-- R21, R35: a cord from its parameter bytes; refused when the identifier is blank, the end is neither A nor B, or the
class is outside 1 to 15. -/
def readCord (id : Word32) (e cls : Byte) : Option Cord :=
  match readFlag e with
  | some isB =>
    if blankCord id = false ∧ 1 ≤ cls.toNat ∧ cls.toNat ≤ 15 then some ⟨id, if isB then .b else .a, cls.toNat⟩ else none
  | none => none

/-! ## The protection channel word (11.4) -/

namespace Pcw

def cls (w : Word16) : Nat := (w.extractLsb' 12 4).toNat
def chan (w : Word16) : Nat := (w.extractLsb' 8 4).toNat
def bridged (w : Word16) : Nat := (w.extractLsb' 4 4).toNat
/-- Bit 3: 1 for 1:N. -/
def oneToN (w : Word16) : Bool := w.getLsbD 3
def bidir (w : Word16) : Bool := w.getLsbD 2
def revertive (w : Word16) : Bool := w.getLsbD 1
def parity (w : Word16) : Bool := w.getLsbD 0

/-- The word of the given fields, with its parity bit (R69). -/
def build (cls chan bridged : Nat) (oneToN bidir revertive : Bool) : Word16 :=
  let body : Word16 := BitVec.ofNat 4 cls ++ BitVec.ofNat 4 chan ++ BitVec.ofNat 4 bridged ++ BitVec.ofBool oneToN
    ++ BitVec.ofBool bidir ++ BitVec.ofBool revertive ++ 0#1
  if oddParity body then body else body ||| 1#16

end Pcw

/-! ## Codes (R51, R122, R154, 11.5, 11.6) -/

namespace ReqClass

def code : ReqClass → Nat
  | .lockout => 15
  | .protFail => 14
  | .force => 13
  | .signalFail => 12
  | .signalDegrade => 11
  | .manual => 10
  | .restoreWait => 9
  | .trial => 8
  | .holdSwitched => 7
  | .idle => 0

def ofCode : Nat → Option ReqClass
  | 15 => some .lockout
  | 14 => some .protFail
  | 13 => some .force
  | 12 => some .signalFail
  | 11 => some .signalDegrade
  | 10 => some .manual
  | 9 => some .restoreWait
  | 8 => some .trial
  | 7 => some .holdSwitched
  | 0 => some .idle
  | _ => none

end ReqClass

namespace LinkPort

def code : LinkPort → Nat
  | .a => 0
  | .b => 1
  | .c => 2

end LinkPort

namespace ReqSource

def code : ReqSource → Nat
  | .port p => LinkPort.code p
  | .cabling => 3
  | .automatic => 4

end ReqSource

def LineAlarm.code : LineAlarm → Nat
  | .lineLol => 1
  | .lineLfa => 2
  | .lineFfi => 3
  | .lineRfi => 4
  | .lineExc => 5
  | .lineSd => 6
  | .cardAbsent => 7
  | .cardUnreadable => 8
  | .selectorFault => 9
  | .cableMissing => 10
  | .cableUnexpected => 11
  | .cableMismatch => 12
  | .cableSwapped => 13
  | .cableUnreadable => 14
  | .moveExpired => 15

/-- R122: the type code of an alarm less 1, the index of its type in the severity profile. -/
def Alarm.typeIx : Alarm → Fin 24
  | .line .lineLol _ => 0
  | .line .lineLfa _ => 1
  | .line .lineFfi _ => 2
  | .line .lineRfi _ => 3
  | .line .lineExc _ => 4
  | .line .lineSd _ => 5
  | .line .cardAbsent _ => 6
  | .line .cardUnreadable _ => 7
  | .line .selectorFault _ => 8
  | .line .cableMissing _ => 9
  | .line .cableUnexpected _ => 10
  | .line .cableMismatch _ => 11
  | .line .cableSwapped _ => 12
  | .line .cableUnreadable _ => 13
  | .line .moveExpired _ => 14
  | .group .protocolFault _ => 15
  | .group .modeMismatch _ => 16
  | .group .groupCrossed _ => 17
  | .refDisqualified _ => 18
  | .shelf .clockHoldover => 19
  | .shelf .clockFreeRun => 20
  | .shelf .holdoverAged => 21
  | .shelf .steerLimit => 22

/-- The index of TABLE_FULL in the severity profile. -/
def tableFullIx : Fin 24 := 23

/-- R122: the type code of an entry; `none` is TABLE_FULL. -/
def typeCode : Option Alarm → Nat
  | some a => (Alarm.typeIx a).val + 1
  | none => 24

/-- The line of a line-object alarm. -/
def Alarm.line? : Alarm → Option LineIx
  | .line _ l => some l
  | _ => none

/-- R122: the object of an alarm; TABLE_FULL is on the shelf. -/
def alarmObject : Option Alarm → Object
  | some (.line _ l) => .line l
  | some (.group _ g) => .group g
  | some (.refDisqualified c) => .cand c
  | some (.shelf _) => .shelf
  | none => .shelf

def Severity.code : Severity → Nat
  | .critical => 1
  | .major => 2
  | .minor => 3
  | .warning => 4

/-- R123: `a` ranks above `b`. -/
def Severity.above (a b : Severity) : Bool := Severity.code a < Severity.code b

/-- 11.6: the code of a service-affecting flag: 0 absent, 1 NSA, 2 SA. -/
def saCode : Option Bool → Nat
  | none => 0
  | some false => 1
  | some true => 2

def Status.code : Status → Byte
  | .ok => 0x00#8
  | .okClamped => 0x01#8
  | .checkFail => 0x10#8
  | .unknownCommand => 0x11#8
  | .badLength => 0x12#8
  | .outOfRange => 0x20#8
  | .notPermitted => 0x21#8
  | .outranked => 0x22#8
  | .notIssuer => 0x23#8
  | .groupInService => 0x24#8
  | .memberConflict => 0x25#8
  | .duplicateCord => 0x26#8
  | .busy => 0x27#8
  | .notConfigured => 0x28#8

/-- R154: OK, or OK_CLAMPED when a value was clamped. -/
def okStatus (clamped : Bool) : Status := if clamped then .okClamped else .ok

/-- R33, 11.6: the code of a cabling state, in the order of the table in 2.4. -/
def CableState.code : CableState → Nat
  | .unplanned => 0
  | .unverified => 1
  | .agreed => 2
  | .vacantOk => 3
  | .missing => 4
  | .unexpected => 5
  | .mismatch _ => 6
  | .swapped _ => 7
  | .unreadable => 8
  | .moving => 9

/-- 11.6: the MISMATCH detail code. -/
def CableState.detailCode : CableState → Nat
  | .mismatch .foreign => 1
  | .mismatch .wrongEnd => 2
  | .mismatch .wrongClass => 3
  | .mismatch .blank => 4
  | _ => 0

/-- "None" is sent as 0xFF for a line or port (R169). -/
def lineOrFF : Option LineIx → Nat
  | some l => l.val
  | none => 0xFF

/-- 11.6: the SWAPPED partner, or 0xFF. -/
def CableState.partnerCode : CableState → Nat
  | .swapped p => p.val
  | _ => 0xFF

/-- The manual's number of a candidate, and 0 for none (R169). -/
def candOrZero : Option CandIx → Nat
  | some c => c.val + 1
  | none => 0

def CandState.code : CandState → Nat
  | .unused => 0
  | .disqualified => 1
  | .qualifying => 2
  | .qualified => 3

def LoopState.code : LoopState → Nat
  | .freeRun => 0
  | .acquiring => 1
  | .locked => 2
  | .holdover => 3

def ClockReq.code : ClockReq → Nat
  | .none => 0
  | .forceRef _ => 1
  | .forceHoldover => 2

def ClockReq.cand : ClockReq → Option CandIx
  | .forceRef c => some c
  | _ => Option.none

/-- 11.6: the reason bits of a REF_STATE event. -/
def Reasons.bits (r : Reasons) : Nat :=
  r.activity.toNat + 2 * r.offset.toNat + 4 * r.lineDefect.toNat + 8 * r.cabling.toNat + 16 * r.source.toNat

def AcoCause.code : AcoCause → Nat
  | .command p => LinkPort.code p
  | .pushbutton => 3
  | .raise => 4
  | .rise => 5
  | .noneLeft => 6

def Clearer.code : Clearer → Nat
  | .port p => LinkPort.code p
  | .service => 3

def TrialDetail.code : TrialDetail → Nat
  | .none => 0
  | .pass => 1
  | .fail => 2

/-- 11.2: the bridge command code. -/
def BridgeCmd.code : BridgeCmd → Nat
  | .hold => 0
  | .none => 1
  | .channel k => k.val + 2

/-- 11.2: the select command code. -/
def SelectCmd.code : SelectCmd → Nat
  | .hold => 0
  | .own => 1
  | .protection => 2

/-- 11.2: the lamp code. -/
def Lamp.code : Lamp → Nat
  | .off => 0
  | .green => 1
  | .amber => 2
  | .red => 3
  | .locateFlash => 4

/-! ## Scan records (11.2, R4, R6, R167) and tag records (11.3, R168) -/

/-- R4: the check byte is correct and every must-be-zero bit is zero. -/
def goodRecord (r : Vector Byte 7) : Bool :=
  crc8 (r.toList.take 6) == r[6] && !r[0].getLsbD 0 && r[1].extractLsb' 0 2 == 0#2 && r[2].extractLsb' 0 4 == 0#4

/-- R6, R167: the fields of a good record; with card-present 0 every other field reads as zero. -/
def readRecord (r : Vector Byte 7) : InRecord :=
  if r[0].getLsbD 7 then
    { cardPresent := true, connPresent := r[0].getLsbD 6, lol := r[0].getLsbD 5, lfa := r[0].getLsbD 4,
      ffi := r[0].getLsbD 3, rfi := r[0].getLsbD 2, pcwValid := r[0].getLsbD 1, echoBridge := r[1].extractLsb' 4 4,
      echoSelect := r[1].extractLsb' 2 2, quality := r[2].extractLsb' 4 4, blockErrors := r[3],
      word := r[4] ++ r[5] }
  else InRecord.zero

/-- 11.2: the four covered bytes of an outbound record and its check byte. -/
def OutRecord.bytes (o : OutRecord) : List Byte :=
  let b0 : Byte := BitVec.ofNat 4 (BridgeCmd.code o.bridge) ++ BitVec.ofNat 2 (SelectCmd.code o.select) ++ 0#2
  let b1 : Byte := BitVec.ofNat 3 (Lamp.code o.lamp) ++ BitVec.ofNat 4 o.quality ++ 0#1
  let body := [b0, b1, o.word.extractLsb' 8 8, o.word.extractLsb' 0 8]
  body ++ [crc8 body]

/-- R2, R167: what a slot sends, in the seven byte times of the inbound record: the outbound record, then two 0x00 bytes. -/
def OutRecord.slot (o : OutRecord) : List Byte := o.bytes ++ [0x00#8, 0x00#8]

/-- R26: the check byte of a tag record is correct. -/
def goodTag (t : Vector Byte 6) : Bool := crc8 (t.toList.take 5) == t[5]

/-- R168: cord identifier, end and fibre class of a tag record. Bits 3 to 1 of byte 4 are not read. -/
def readTag (t : Vector Byte 6) : Cord :=
  { id := t[0] ++ t[1] ++ t[2] ++ t[3], fin := if t[4].getLsbD 0 then .b else .a, cls := (t[4].extractLsb' 4 4).toNat }

/-! ## Bytes sent -/

/-- A quantity in `n` bytes, high byte first. -/
def bytesOf : Nat → Nat → List Byte
  | 0, _ => []
  | n + 1, v => BitVec.ofNat 8 (v / 256 ^ n) :: bytesOf n v

/-- A signed quantity in two bytes, two's complement. -/
def signed16 (x : Int) : Nat := (BitVec.ofInt 16 x).toNat

/-- A signed quantity in four bytes, two's complement. -/
def signed32 (x : Int) : Nat := (BitVec.ofInt 32 x).toNat

/-- 11.6: the code of an event's object byte: class in bits 7 to 5, index in bits 4 to 0. -/
def Object.byte : Object → Nat
  | .shelf => 0
  | .line l => 32 + l.val
  | .group g => 64 + g.val
  | .cand c => 96 + (c.val + 1)

/-- R161: the kind code of an event. -/
def EventBody.kind : EventBody → Nat
  | .partStart _ => 1
  | .resync => 2
  | .alarmRaised .. => 3
  | .alarmCleared .. => 4
  | .alarmSeverity .. => 5
  | .alarmNotRecorded .. => 6
  | .protSwitched .. => 7
  | .protRequest .. => 8
  | .requestPreempted .. => 9
  | .clockPreempted .. => 9
  | .requestClearedByOther .. => 10
  | .cableState .. => 11
  | .moveDone .. => 12
  | .refState .. => 13
  | .clockState .. => 14
  | .acoState .. => 15

/-- R161: the object of an event. -/
def EventBody.object : EventBody → Object
  | .partStart _ => .shelf
  | .resync => .shelf
  | .alarmRaised a .. => alarmObject a
  | .alarmCleared a .. => alarmObject a
  | .alarmSeverity a .. => alarmObject a
  | .alarmNotRecorded a .. => alarmObject (some a)
  | .protSwitched g .. => .group g
  | .protRequest g .. => .group g
  | .requestPreempted g .. => .group g
  | .clockPreempted .. => .shelf
  | .requestClearedByOther g .. => .group g
  | .cableState l _ => .line l
  | .moveDone l _ => .line l
  | .refState c .. => .cand c
  | .clockState .. => .shelf
  | .acoState .. => .shelf

/-- The code of a request's source; an IDLE winner has none, and the code then sent is a free value (log entry 3). -/
def sourceCode (free : Nat) : Option ReqSource → Nat
  | some x => ReqSource.code x
  | none => Config.free free .idleSource

/-- 11.6: the detail bytes of an event before padding. -/
def EventBody.detail (free : Nat) : EventBody → List Nat
  | .partStart restart => [restart.toNat]
  | .resync => []
  | .alarmRaised a sev sa n ix => [typeCode a, Severity.code sev, saCode sa, n, ix]
  | .alarmCleared a sev sa => [typeCode a, Severity.code sev, saCode sa]
  | .alarmSeverity a old new sa => [typeCode a, Severity.code old, Severity.code new, saCode sa]
  | .alarmNotRecorded a sev sa => [typeCode (some a), Severity.code sev, saCode sa]
  | .protSwitched _ new old br c ch => [new, old, br, ReqClass.code c, ch]
  | .protRequest _ c ch src d => [ReqClass.code c, ch, sourceCode free src, TrialDetail.code d]
  | .requestPreempted _ _ c ch c' src => [ReqClass.code c, ch, ReqClass.code c', sourceCode free src]
  | .clockPreempted _ old new p =>
    [ClockReq.code old, candOrZero (ClockReq.cand old), ClockReq.code new, candOrZero (ClockReq.cand new), LinkPort.code p]
  | .requestClearedByOther _ _ c ch who => [ReqClass.code c, ch, Clearer.code who]
  | .cableState _ st => [CableState.code st, CableState.detailCode st, CableState.partnerCode st]
  | .moveDone _ cord => (bytesOf 4 cord.toNat).map (·.toNat)
  | .refState _ st r l q => [CandState.code st, Reasons.bits r, lineOrFF l] ++ (bytesOf 2 (signed16 q)).map (·.toNat)
  | .clockState loop aged limit sel own feed steer =>
    [64 * LoopState.code loop + 2 * aged.toNat + limit.toNat, candOrZero sel, own, lineOrFF feed]
      ++ (bytesOf 2 (signed16 steer)).map (·.toNat)
  | .acoState sev cause => [sev.isSome.toNat, (sev.map Severity.code).getD 0, AcoCause.code cause]

/-- R161, 11.6: RESYNC has no detail; every other kind carries 6 bytes of detail, unused ones 0. -/
def EventBody.size : EventBody → Nat
  | .resync => 6
  | _ => 12

/-- 11.6: the record of an event. -/
def Event.bytes (free : Nat) (e : Event) : List Byte :=
  let head := BitVec.ofNat 8 e.body.kind :: BitVec.ofNat 8 (Object.byte e.body.object) :: bytesOf 4 e.time.toNat
  let body := (e.body.detail free).map (BitVec.ofNat 8)
  (head ++ body ++ List.replicate 6 0#8).take e.body.size

/-- R154: a response frame: length byte, status, results and check byte. -/
def Response.frame (r : Response) : List Byte :=
  let body := BitVec.ofNat 8 (r.results.length + 3) :: Status.code r.status :: r.results
  body ++ [crc8 body]

/-- R150, R152: what a port sends for a response once it is ready: the start byte, then the response frame. -/
def Response.sent (r : Response) : List Byte := 0xA5#8 :: r.frame

/-! ## The packing of read results (R169) -/

/-- A field of a read's results: a flag, a code of four bits, or a quantity of whole bytes. -/
inductive Field where
  | bit (b : Bool)
  | code (n : Nat)
  | qty (bytes v : Nat)
  deriving DecidableEq, Repr

/-- The kind of the run of fields being packed. -/
inductive RunKind where
  | bits | codes | bytes
  deriving DecidableEq, Repr

def Field.kind : Field → RunKind
  | .bit _ => .bits
  | .code _ => .codes
  | .qty .. => .bytes

/-- The `n` low bits of a number, most significant first. -/
def bitsOf : Nat → Nat → List Bool
  | 0, _ => []
  | n + 1, v => v.testBit n :: bitsOf n v

def Field.bits : Field → List Bool
  | .bit b => [b]
  | .code n => bitsOf 4 n
  | .qty k v => bitsOf (8 * k) v

/-- A run of bits closed out with zeros to a byte boundary. -/
def closeOut (bs : List Bool) : List Bool := bs ++ List.replicate ((8 - bs.length % 8) % 8) false

/-- R169: fields of one width follow one another; a change of width closes the run out to a byte boundary. -/
def layBits (fs : List Field) : List Bool :=
  closeOut (fs.foldl (fun (acc : RunKind × List Bool) f =>
    if acc.1 = f.kind then (acc.1, acc.2 ++ f.bits) else (f.kind, closeOut acc.2 ++ f.bits)) (.bytes, [])).2

/-- Eight bits as a byte, the first in bit 7. -/
def byteOfBits (bs : List Bool) : Byte := BitVec.ofNat 8 (bs.foldl (fun n b => 2 * n + b.toNat) 0)

/-- A run of bits as bytes; `n` bounds their number. -/
def bytesOfBits : Nat → List Bool → List Byte
  | 0, _ => []
  | n + 1, bs => if bs.isEmpty then [] else byteOfBits (bs.take 8) :: bytesOfBits n (bs.drop 8)

/-- R169: the result bytes of a list of fields. -/
def pack (fs : List Field) : List Byte :=
  let bs := layBits fs
  bytesOfBits (bs.length / 8) bs

end Sys2Proof.Machine
end

