-- ==== Sys2Proof/Decode.lean ====
section
/-!
DEFINITION. Decode.lean: the command that a word spells by the bits of spec/opcode_table.json, and the frame in which a
command is sent (R157 to R159, 11.5). The table gives no row any bits: a command is not a word, so no word spells one. The
bytes of a link frame are read in Machine/Frames.lean.
-/
namespace Sys2Proof

open Machine

/-- No row of the table has bits. -/
def decodeTableWord (_nbits _w : Nat) : Option Instr := none

/-- A two-byte parameter, high byte first. -/
def twoBytes (w : Word16) : List Byte := [w.extractLsb' 8 8, w.extractLsb' 0 8]

/-- A four-byte parameter, high byte first. -/
def fourBytes (w : Word32) : List Byte := [w.extractLsb' 24 8, w.extractLsb' 16 8, w.extractLsb' 8 8, w.extractLsb' 0 8]

/-- 11.5: the frame of a command: length byte, code, parameters and check byte. -/
def frameOf (code : Byte) (params : List Byte) : List Byte :=
  let body := BitVec.ofNat 8 (params.length + 3) :: code :: params
  body ++ [crc8 body]

/-- 11.5: the port and the frame with which a command is sent; an event has none. Ignored bytes are sent as 0. -/
def commandFrame : Instr → Option (LinkPort × List Byte)
  | .lineSetupShelfForm p i => some (p, frameOf 0x01#8 [i])
  | .lineSetupLineForm p x => some (p, frameOf 0x01#8 ([x.line, x.equipped, x.soakRaise, x.soakClear] ++ twoBytes x.excSet ++
      twoBytes x.excClear ++ twoBytes x.sdSet ++ twoBytes x.sdClear))
  | .cableExpectShelfForm p n => some (p, frameOf 0x02#8 (twoBytes n))
  | .cableExpectPortForm p port kind cord e cls => some (p, frameOf 0x02#8 ([port, kind] ++ fourBytes cord ++ [e, cls]))
  | .groupSetupConfigureForm p x => some (p, frameOf 0x03#8 ([x.group, x.arch, x.direction, x.revertive, x.prot, x.count] ++
      x.working.toList ++ [x.holdOff] ++ twoBytes x.restoreWait ++ [x.timeout]))
  | .groupSetupRemoveForm p g => some (p, frameOf 0x03#8 [g])
  | .groupServiceIn p g => some (p, frameOf 0x04#8 [g, 1#8])
  | .groupServiceOut p g => some (p, frameOf 0x04#8 [g, 0#8])
  | .candidateSetup p x =>
    some (p, frameOf 0x05#8 [x.cand, x.enabled, x.sourceKind, x.lineOrGroup, x.channel, x.priority, x.quality])
  | .clockSetup p x => some (p, frameOf 0x06#8 ([x.gateExp] ++ twoBytes x.qualifyLimit ++ twoBytes x.disqualifyLimit ++
      [x.qualifyCount, x.gainShift, x.averageShift] ++ twoBytes x.lockThreshold ++ twoBytes x.unlockThreshold ++
      twoBytes x.freeRun ++ [x.pullSign, x.shelfQuality, x.holdoverQuality, x.revertive, x.ageLimit]))
  | .severitySetup p t sa nsa => some (p, frameOf 0x07#8 [t, sa, nsa])
  | .cadenceLoadStepForm p first steps => some (p, frameOf 0x08#8 ([0#8, first, BitVec.ofNat 8 steps.length] ++
      steps.flatMap fun x => [x.kind, x.duration, x.tie]))
  | .cadenceLoadDescriptorForm p x => some (p, frameOf 0x08#8 [1#8, x.desc, x.start, x.length, x.mode, x.tone, x.tempo])
  | .queueSetup p port t => some (p, frameOf 0x09#8 [port, t])
  | .timeSet p n => some (p, frameOf 0x0A#8 (fourBytes n))
  | .protectionRequest p g kind ch => some (p, frameOf 0x20#8 [g, kind, ch])
  | .protectionRequestClear p g => some (p, frameOf 0x20#8 [g, 0#8, 0#8])
  | .clockRequest p kind c => some (p, frameOf 0x21#8 [kind, c])
  | .candidateLockout p c kind => some (p, frameOf 0x22#8 [c, kind])
  | .cableMove p port cord e cls w => some (p, frameOf 0x23#8 ([port] ++ fourBytes cord ++ [e, cls, w]))
  | .cableMoveCancel p port => some (p, frameOf 0x24#8 [port])
  | .locateOn p port d => some (p, frameOf 0x25#8 ([port, 1#8] ++ twoBytes d))
  | .locateOff p port => some (p, frameOf 0x25#8 [port, 0#8, 0#8, 0#8])
  | .alarmAcknowledgeIndex p i => some (p, frameOf 0x26#8 [0#8, i])
  | .alarmAcknowledgeSeverity p v => some (p, frameOf 0x26#8 [1#8, v])
  | .alarmAcknowledgeAll p => some (p, frameOf 0x26#8 [2#8, 0#8])
  | .alarmCutoff p => some (p, frameOf 0x27#8 [])
  | .shelfRestart p => some (p, frameOf 0x2F#8 [])
  | .readEvents p n => some (p, frameOf 0x40#8 [n])
  | .readLine p l => some (p, frameOf 0x41#8 [l])
  | .readCable p l => some (p, frameOf 0x42#8 [l])
  | .readGroup p g part => some (p, frameOf 0x43#8 [g, part])
  | .readClock p => some (p, frameOf 0x44#8 [])
  | .readCandidate p c => some (p, frameOf 0x45#8 [c])
  | .readAlarms p n => some (p, frameOf 0x46#8 [n])
  | .readOffice p part first => some (p, frameOf 0x47#8 (if part = 2#8 then [part, first] else [part]))
  | _ => none

end Sys2Proof
end

