-- ==== Sys2Proof/Machine/Frames.lean ====
section
/-!
DEFINITION. Machine/Frames.lean: how the Link Ports read a command frame (R153, R156 to R159, R169; layouts of 11.5): the
frame's bytes give a command, or the status with which it is refused before any block sees it.
-/
namespace Sys2Proof.Machine

/-- Two bytes of a parameter, high byte first. -/
def word16 (a b : Byte) : Word16 := a ++ b

/-- Four bytes of a parameter, high byte first. -/
def word32 (a b c d : Byte) : Word32 := a ++ b ++ c ++ d

/-- R156: the codes of the commands Port C may use. -/
def craftCodes : List Nat :=
  [0x20, 0x23, 0x24, 0x25, 0x26, 0x27, 0x40, 0x41, 0x42, 0x43, 0x44, 0x45, 0x46, 0x47]

/-- The steps of a CADENCE LOAD step form, three bytes each; `none` when bytes are left over. -/
def readSteps : List Byte → Option (List RawStep)
  | [] => some []
  | a :: b :: c :: rest => (readSteps rest).map (⟨a, b, c⟩ :: ·)
  | _ => none

/-- What the bytes of a frame give: a command, or a status. -/
abbrev Parsed := Except Status Instr

/-- R153 step 5: a parameter count that the command does not take. -/
def badLength : Parsed := .error .badLength

/-- R169: a form or choice that the command does not name. -/
def badCode : Parsed := .error .outOfRange

/-- LINE SETUP (R157, R169): its forms are told apart by their counts. -/
def parseLineSetup (p : LinkPort) : List Byte → Parsed
  | [i] => .ok (.lineSetupShelfForm p i)
  | [l, e, sr, sc, a1, a0, b1, b0, c1, c0, d1, d0] =>
    .ok (.lineSetupLineForm p ⟨l, e, sr, sc, word16 a1 a0, word16 b1 b0, word16 c1 c0, word16 d1 d0⟩)
  | _ => badLength

/-- CABLE EXPECT (R157, R169). -/
def parseCableExpect (p : LinkPort) : List Byte → Parsed
  | [s1, s0] => .ok (.cableExpectShelfForm p (word16 s1 s0))
  | [port, kind, c3, c2, c1, c0, e, cls] => .ok (.cableExpectPortForm p port kind (word32 c3 c2 c1 c0) e cls)
  | _ => badLength

/-- GROUP SETUP (R157, R169). -/
def parseGroupSetup (p : LinkPort) : List Byte → Parsed
  | [g] => .ok (.groupSetupRemoveForm p g)
  | [g, arch, dir, rev, prot, n, w1, w2, w3, w4, w5, w6, hold, r1, r0, t] =>
    .ok (.groupSetupConfigureForm p ⟨g, arch, dir, rev, prot, n, #v[w1, w2, w3, w4, w5, w6], hold, word16 r1 r0, t⟩)
  | _ => badLength

/-- GROUP SERVICE: 0 OUT, 1 IN. -/
def parseGroupService (p : LinkPort) : List Byte → Parsed
  | [g, on] =>
    (match readFlag on with
    | some true => .ok (.groupServiceIn p g)
    | some false => .ok (.groupServiceOut p g)
    | none => badCode)
  | _ => badLength

/-- CANDIDATE SETUP. -/
def parseCandidateSetup (p : LinkPort) : List Byte → Parsed
  | [c, e, k, lg, ch, pr, q] => .ok (.candidateSetup p ⟨c, e, k, lg, ch, pr, q⟩)
  | _ => badLength

/-- CLOCK SETUP. -/
def parseClockSetup (p : LinkPort) : List Byte → Parsed
  | [g, q1, q0, d1, d0, n, k, a, l1, l0, u1, u0, f1, f0, pull, sq, hq, rev, age] =>
    .ok (.clockSetup p ⟨g, word16 q1 q0, word16 d1 d0, n, k, a, word16 l1 l0, word16 u1 u0, word16 f1 f0, pull, sq, hq,
      rev, age⟩)
  | _ => badLength

/-- SEVERITY SETUP. -/
def parseSeveritySetup (p : LinkPort) : List Byte → Parsed
  | [t, sa, nsa] => .ok (.severitySetup p t sa nsa)
  | _ => badLength

/-- CADENCE LOAD, step form: measured against the count in its third byte (R169). -/
def parseSteps (p : LinkPort) (first count : Byte) (rest : List Byte) : Parsed :=
  if rest.length = 3 * count.toNat then
    match readSteps rest with
    | some xs => .ok (.cadenceLoadStepForm p first xs)
    | none => badLength
  else badLength

/-- CADENCE LOAD (R157, R169): its first byte names the form; a byte that names none is not refused for its length. -/
def parseCadenceLoad (p : LinkPort) : List Byte → Parsed
  | [] => badLength
  | form :: rest =>
    match form.toNat with
    | 0 =>
      (match rest with
      | first :: count :: steps => parseSteps p first count steps
      | _ => badLength)
    | 1 =>
      (match rest with
      | [d, start, len, mode, tone, tempo] => .ok (.cadenceLoadDescriptorForm p ⟨d, start, len, mode, tone, tempo⟩)
      | _ => badLength)
    | _ => badCode

/-- QUEUE SETUP. -/
def parseQueueSetup (p : LinkPort) : List Byte → Parsed
  | [port, t] => .ok (.queueSetup p port t)
  | _ => badLength

/-- TIME SET. -/
def parseTimeSet (p : LinkPort) : List Byte → Parsed
  | [a, b, c, d] => .ok (.timeSet p (word32 a b c d))
  | _ => badLength

/-- PROTECTION REQUEST: kind 0 is CLEAR (R158). -/
def parseProtectionRequest (p : LinkPort) : List Byte → Parsed
  | [g, kind, ch] => .ok (if kind = 0#8 then .protectionRequestClear p g else .protectionRequest p g kind ch)
  | _ => badLength

/-- CLOCK REQUEST. -/
def parseClockRequest (p : LinkPort) : List Byte → Parsed
  | [kind, c] => .ok (.clockRequest p kind c)
  | _ => badLength

/-- CANDIDATE LOCKOUT. -/
def parseCandidateLockout (p : LinkPort) : List Byte → Parsed
  | [c, kind] => .ok (.candidateLockout p c kind)
  | _ => badLength

/-- CABLE MOVE. -/
def parseCableMove (p : LinkPort) : List Byte → Parsed
  | [port, c3, c2, c1, c0, e, cls, w] => .ok (.cableMove p port (word32 c3 c2 c1 c0) e cls w)
  | _ => badLength

/-- CABLE MOVE CANCEL. -/
def parseCableMoveCancel (p : LinkPort) : List Byte → Parsed
  | [port] => .ok (.cableMoveCancel p port)
  | _ => badLength

/-- LOCATE: 0 off, 1 on. -/
def parseLocate (p : LinkPort) : List Byte → Parsed
  | [port, on, d1, d0] =>
    (match readFlag on with
    | some true => .ok (.locateOn p port (word16 d1 d0))
    | some false => .ok (.locateOff p port)
    | none => badCode)
  | _ => badLength

/-- ALARM ACKNOWLEDGE: form 0 index, 1 severity, 2 ALL (R158). -/
def parseAcknowledge (p : LinkPort) : List Byte → Parsed
  | [form, x] =>
    (match form.toNat with
    | 0 => .ok (.alarmAcknowledgeIndex p x)
    | 1 => .ok (.alarmAcknowledgeSeverity p x)
    | 2 => .ok (.alarmAcknowledgeAll p)
    | _ => badCode)
  | _ => badLength

/-- A command without parameters. -/
def parseNone (i : Instr) : List Byte → Parsed
  | [] => .ok i
  | _ => badLength

/-- A command with one parameter byte. -/
def parseOne (f : Byte → Instr) : List Byte → Parsed
  | [x] => .ok (f x)
  | _ => badLength

/-- READ GROUP. -/
def parseReadGroup (p : LinkPort) : List Byte → Parsed
  | [g, part] => .ok (.readGroup p g part)
  | _ => badLength

/-- READ OFFICE: part 2 carries its first index; any other part is measured as the one-byte form (R169). -/
def parseReadOffice (p : LinkPort) : List Byte → Parsed
  | [part] => if part = 2#8 then badLength else .ok (.readOffice p part 0#8)
  | [part, first] => if part = 2#8 then .ok (.readOffice p part first) else badLength
  | _ => badLength

/-- R157 to R159, R169: the command of a code with its parameter bytes; `none` for a code that names no command. -/
def parseParams (p : LinkPort) (code : Nat) : Option (List Byte → Parsed) :=
  match code with
  | 0x01 => some (parseLineSetup p)
  | 0x02 => some (parseCableExpect p)
  | 0x03 => some (parseGroupSetup p)
  | 0x04 => some (parseGroupService p)
  | 0x05 => some (parseCandidateSetup p)
  | 0x06 => some (parseClockSetup p)
  | 0x07 => some (parseSeveritySetup p)
  | 0x08 => some (parseCadenceLoad p)
  | 0x09 => some (parseQueueSetup p)
  | 0x0A => some (parseTimeSet p)
  | 0x20 => some (parseProtectionRequest p)
  | 0x21 => some (parseClockRequest p)
  | 0x22 => some (parseCandidateLockout p)
  | 0x23 => some (parseCableMove p)
  | 0x24 => some (parseCableMoveCancel p)
  | 0x25 => some (parseLocate p)
  | 0x26 => some (parseAcknowledge p)
  | 0x27 => some (parseNone (.alarmCutoff p))
  | 0x2F => some (parseNone (.shelfRestart p))
  | 0x40 => some (parseOne (.readEvents p))
  | 0x41 => some (parseOne (.readLine p))
  | 0x42 => some (parseOne (.readCable p))
  | 0x43 => some (parseReadGroup p)
  | 0x44 => some (parseNone (.readClock p))
  | 0x45 => some (parseOne (.readCandidate p))
  | 0x46 => some (parseOne (.readAlarms p))
  | 0x47 => some (parseReadOffice p)
  | _ => none

/-- R153 steps 3 to 5: code, permission and parameter length. -/
def parseBody (p : LinkPort) (code : Byte) (params : List Byte) : Parsed :=
  match parseParams p code.toNat with
  | none => .error .unknownCommand
  | some f => if p = .c ∧ craftCodes.contains code.toNat = false then .error .notPermitted else f params

/-- R153 step 1: the length byte is within 3 to 64. -/
def goodLength (b : Byte) : Bool := decide (3 ≤ b.toNat ∧ b.toNat ≤ 64)

/-- R153: a frame is checked, from its length byte through its check byte; the first test that fails gives the status. -/
def parseFrame (p : LinkPort) (frame : List Byte) : Parsed :=
  match frame with
  | [] => .error .badLength
  | len :: rest =>
    if goodLength len = false then .error .badLength
    else if crc8 frame.dropLast ≠ frame.getLastD 0#8 then .error .checkFail
    else match rest with
      | code :: tail => parseBody p code tail.dropLast
      | [] => .error .badLength

/-- A frame holds as many bytes as its length byte counts, or only a length byte outside 3 to 64 (R153 step 1). -/
def frameComplete (frame : List Byte) : Bool :=
  match frame with
  | [] => false
  | len :: _ => !goodLength len || frame.length == len.toNat

end Sys2Proof.Machine
end

