-- ==== Sys2Proof/Machine/Flags.lean ====
section
/-!
DEFINITION. Machine/Flags.lean: every condition the manual forms from the state and does not itself store: raw signal
fail and degrade (R8), the winner (R52), the far-end request (R74), the effective request (R76), bridge, selection and
signal state (R77 to R80), coverage (R65), crossed condition (R34), eligibility (R100), the selection (R105), the own
quality (R116), the clock conditions (R119), the lamp code (R18), the holders' alarm conditions (R122) and the service
request (R164). All are pure functions.
-/
namespace Sys2Proof.Machine

/-- The 16 lines in order. -/
def allLines : List LineIx := [0, 1, 2, 3, 4, 5, 6, 7, 8, 9, 10, 11, 12, 13, 14, 15]

/-- The eight groups in order. -/
def allGroups : List GroupIx := [0, 1, 2, 3, 4, 5, 6, 7]

/-- The six candidates in order. -/
def allCands : List CandIx := [0, 1, 2, 3, 4, 5]

/-- The six channel places of a group in order. -/
def allChans : List ChanIx := [0, 1, 2, 3, 4, 5]

/-- The eight conditions, in the order in which R122 gives their alarms. -/
def allConds : List Cond := [.lol, .lfa, .ffi, .rfi, .exc, .sd, .cardAbsent, .cardUnreadable]

/-! ## Conditions of a line (R7, R8) -/

def PerCond.get {α : Type} (p : PerCond α) : Cond → α
  | .lol => p.lol
  | .lfa => p.lfa
  | .ffi => p.ffi
  | .rfi => p.rfi
  | .exc => p.exc
  | .sd => p.sd
  | .cardAbsent => p.cardAbsent
  | .cardUnreadable => p.cardUnreadable

def PerCond.set {α : Type} (p : PerCond α) (c : Cond) (x : α) : PerCond α :=
  match c with
  | .lol => { p with lol := x }
  | .lfa => { p with lfa := x }
  | .ffi => { p with ffi := x }
  | .rfi => { p with rfi := x }
  | .exc => { p with exc := x }
  | .sd => { p with sd := x }
  | .cardAbsent => { p with cardAbsent := x }
  | .cardUnreadable => { p with cardUnreadable := x }

/-- R8: raw signal fail. -/
def Line.rawFail (ln : Line) : Bool :=
  ln.raw.lol || ln.raw.lfa || ln.raw.ffi || ln.raw.exc || ln.raw.cardAbsent || ln.raw.cardUnreadable ||
    (!ln.settings.equipped && ln.presence == .absent)

/-- R8: raw degrade. -/
def Line.rawDegrade (ln : Line) : Bool := ln.raw.sd

/-- R91: the line has raw LOL, LFA or FFI, or CARD_UNREADABLE, or a card presence other than PRESENT. -/
def Line.defect (ln : Line) : Bool :=
  ln.raw.lol || ln.raw.lfa || ln.raw.ffi || ln.raw.cardUnreadable || ln.presence != .present

/-- R11: the sum of the ring of ten closed SD bins. -/
def Line.ringSum (ln : Line) : Nat := ln.ring.sum

/-- R14: the alarm type of an integrated condition. -/
def Cond.alarm : Cond → LineAlarm
  | .lol => .lineLol
  | .lfa => .lineLfa
  | .ffi => .lineFfi
  | .rfi => .lineRfi
  | .exc => .lineExc
  | .sd => .lineSd
  | .cardAbsent => .cardAbsent
  | .cardUnreadable => .cardUnreadable

/-! ## Cabling (R21, R22, R33, R34) -/

/-- R21: the state of a port from its kind and the accepted connector presence. -/
def presenceState (e : Expectation) (present : Bool) : CableState :=
  match e, present with
  | .unplanned, _ => .unplanned
  | .vacant, false => .vacantOk
  | .vacant, true => .unexpected
  | .planned _, false => .missing
  | .planned _, true => .unverified

/-- R33: the cabling alarm a state holds, if any. -/
def CableState.alarm? : CableState → Option LineAlarm
  | .missing => some .cableMissing
  | .unexpected => some .cableUnexpected
  | .mismatch _ => some .cableMismatch
  | .swapped _ => some .cableSwapped
  | .unreadable => some .cableUnreadable
  | _ => none

/-- R22: a port holds a cord identifier, as its PLANNED expectation (`ofExpect`) or as its pending expectation. -/
def CablePort.holdsExpected (p : CablePort) (id : Word32) : Bool :=
  match p.expect with
  | .planned c => c.id == id
  | _ => false

def CablePort.holdsPending (p : CablePort) (id : Word32) : Bool :=
  match p.move with
  | some m => m.pending.id == id
  | none => false

def CablePort.holds (p : CablePort) (id : Word32) : Bool := p.holdsExpected id || p.holdsPending id

/-- R28, case 2: the port other than `l` that holds the cord identifier. -/
def Cabling.otherHolder (cb : Cabling) (l : LineIx) (id : Word32) : Option LineIx :=
  allLines.find? fun q => q != l && (cb.ports.get q).holds id

/-- R22: a CABLE MOVE's cord identifier is already held by any port. -/
def Cabling.duplicate (cb : Cabling) (id : Word32) : Bool := allLines.any fun q => (cb.ports.get q).holds id

/-- R22: a CABLE EXPECT's cord identifier is held by another port, or pending on its own. -/
def Cabling.duplicateFor (cb : Cabling) (l : LineIx) (id : Word32) : Bool :=
  allLines.any fun q => if q = l then (cb.ports.get q).holdsPending id else (cb.ports.get q).holds id

/-- Port `l` is SWAPPED naming `q` as partner. -/
def Cabling.swappedWith (cb : Cabling) (l q : LineIx) : Bool := (cb.ports.get l).state == .swapped q

/-- R34: the crossed condition of a group. In a 1+1 group the working list has one line. -/
def crossedCond (cb : Cabling) (g : Group) : Bool :=
  g.working.any fun w => cb.swappedWith w g.prot && cb.swappedWith g.prot w

/-- R39: a port is lit as the partner of a located SWAPPED port. -/
def Cabling.partnerLit (cb : Cabling) (l : LineIx) : Bool :=
  allLines.any fun q => (cb.ports.get q).locate.isSome && cb.swappedWith q l

/-- R24: a port may be read: its connector is present, and it is not UNPLANNED or has a move open. -/
def readable (p : CablePort) (present : Bool) : Bool := present && (p.expect != .unplanned || p.move.isSome)

/-- R28: the outcome of a read result on port `l`. On an UNPLANNED port with no move open, which is never read, no outcome
is applied (R24); OTHER stands for it. -/
def classify (cb : Cabling) (l : LineIx) (tag : Cord) : TagOutcome :=
  let p := cb.ports.get l
  match p.move with
  | some m => if tag = m.pending then .agree else .notYet
  | none =>
    match p.expect with
    | .planned e =>
      if blankCord tag.id then .blank
      else if tag.id = e.id then
        (if tag.fin = e.fin then (if tag.cls = e.cls then .agree else .wrongClass) else .wrongEnd)
      else match cb.otherHolder l tag.id with
        | some q => .elsewhere q
        | none => .foreign
    | _ =>
      match cb.otherHolder l tag.id with
      | some q => .elsewhere q
      | none => .other

/-! ## Groups: roles, winner, far end (R43 to R52, R74 to R80) -/

/-- 3.1: the role of a line. -/
inductive Role where
  | none | working (g : GroupIx) (k : ChanIx) | protection (g : GroupIx)
  deriving DecidableEq, Repr

/-- The working line of a channel. -/
def Group.lineOf (g : Group) (k : ChanIx) : Option LineIx := g.working[k.val]?

/-- The channel of a working line. -/
def Group.chanOf (g : Group) (l : LineIx) : Option ChanIx := allChans.find? fun k => g.lineOf k == some l

/-- A line's membership of a group. -/
def Group.member (g : Group) (l : LineIx) : Bool := g.prot == l || g.working.contains l

/-- The role of a line in one configured group. -/
def Group.roleOf (gi : GroupIx) (g : Group) (l : LineIx) : Role :=
  if g.prot = l then .protection gi
  else match g.chanOf l with
    | some k => .working gi k
    | none => .none

/-- 3.1: the role of a line, from the configured groups. -/
def Protection.role (p : Protection) (l : LineIx) : Role :=
  allGroups.foldl (fun r gi =>
    match r with
    | .none => (match p.groups.get gi with
      | some g => g.roleOf gi l
      | Option.none => .none)
    | r => r) .none

/-- The group a line belongs to. -/
def Protection.groupOf (p : Protection) (l : LineIx) : Option GroupIx :=
  match p.role l with
  | .none => none
  | .working g _ => some g
  | .protection g => some g

/-- R52: SIGNAL_DEGRADE entries are held while the protection line has raw degrade. -/
def ReqEntry.held (degraded : Bool) (e : ReqEntry) : Bool := degraded && e.cls == .signalDegrade

/-- R52: of the entries that take part, the one of highest class, the oldest among equals. -/
def pickWinner (degraded : Bool) (es : List ReqEntry) : Option ReqEntry :=
  es.foldl (fun best e =>
    if e.held degraded then best
    else match best with
      | none => some e
      | some x => if ReqClass.code x.cls < ReqClass.code e.cls then some e else some x) none

/-- R52: the winner; IDLE with channel 0 when no entry takes part. -/
def winnerOf : Option ReqEntry → Winner
  | some e => ⟨e.cls, e.chan, some e.source⟩
  | none => ⟨.idle, 0, none⟩

/-- An external request: one whose source is a port. -/
def ReqEntry.external (e : ReqEntry) : Bool :=
  match e.source with
  | .port _ => true
  | _ => false

/-- The issuer of an external request. -/
def ReqEntry.issuer (e : ReqEntry) : Option LinkPort :=
  match e.source with
  | .port p => some p
  | _ => none

/-- The external request of a list. -/
def externalOf (es : List ReqEntry) : Option ReqEntry := es.find? (·.external)

/-- R82: the outstanding TRIAL of a list. -/
def trialOf (es : List ReqEntry) : Option ReqEntry := es.find? fun e => e.external && e.cls == .trial

/-- R73: a group operates bidirectionally while it is configured so and the mode mismatch flag is clear. -/
def Group.operatesBidir (g : Group) : Bool := g.bidir && !g.mismatch

/-- R74: the accepted word is taken as IDLE with bridge 0. -/
def Group.farEndIdle (g : Group) : Bool :=
  !g.tracker.received || (g.arch == .oneToN && !Pcw.oneToN g.tracker.accepted)

/-- R74: the far-end bridged channel. -/
def Group.farBridge (g : Group) : Nat := if g.farEndIdle then 0 else Pcw.bridged g.tracker.accepted

/-- R74: a request's channel fits its class in a group of `n` channels. -/
def chanFits (n : Nat) (c : ReqClass) (chan : Nat) : Bool :=
  match c with
  | .idle => chan == 0
  | .protFail => chan == 0
  | .lockout => chan == 0
  | _ => 1 ≤ chan && chan ≤ n

/-- R74: the far-end request. -/
def Group.farRequest (g : Group) : ReqClass × Nat :=
  if g.farEndIdle then (.idle, 0)
  else match ReqClass.ofCode (Pcw.cls g.tracker.accepted) with
    | some c => if chanFits g.working.length c (Pcw.chan g.tracker.accepted) then (c, Pcw.chan g.tracker.accepted) else (.idle, 0)
    | none => (.idle, 0)

/-- R75: the far-end request is disregarded while it is in the own-request record. -/
def Group.disregarded (g : Group) : Bool := g.operatesBidir && g.own.contains g.farRequest

/-- R76: the far-end request `f` is taken before the local winner `w`. -/
def farWins (w f : ReqClass × Nat) : Bool :=
  if ReqClass.code w.1 = ReqClass.code f.1 then
    (f.2 != 0 && (w.2 == 0 || f.2 < w.2))
  else ReqClass.code w.1 < ReqClass.code f.1

/-- R76: the effective request of a group whose local winner is `w`. -/
def Group.effective (g : Group) (w : Winner) : EffRequest :=
  if g.operatesBidir && !g.disregarded && farWins (w.cls, w.chan) g.farRequest then
    ⟨g.farRequest.1, g.farRequest.2, false⟩
  else ⟨w.cls, w.chan, true⟩

/-- R77: the bridged channel. -/
def Group.bridgeFor (g : Group) (e : EffRequest) : Nat :=
  match g.arch with
  | .onePlusOne => 1
  | .oneToN =>
    if g.operatesBidir then (if e.cls = .trial then 0 else e.chan)
    else if g.farRequest.1 = .trial then 0 else g.farRequest.2

/-- R78: the selected channel. -/
def Group.selectFor (g : Group) (e : EffRequest) : Nat :=
  match g.arch with
  | .onePlusOne => if e.cls = .trial then 0 else e.chan
  | .oneToN => if e.cls ≠ .trial ∧ g.farBridge = e.chan then e.chan else 0

/-- R80: the signal state, for an effective request and a selected channel. -/
def Group.signalFor (g : Group) (e : EffRequest) (selected : Nat) : SignalState :=
  if selected ≠ 0 then .switched
  else match g.arch with
    | .onePlusOne => .quiet
    | .oneToN =>
      if e.chan ≠ 0 ∧ e.cls ≠ .trial then .requesting
      else if g.farBridge ≠ 0 then .releasing else .quiet

/-- R81: the agreement condition. -/
def Group.agreementCond (g : Group) : Bool :=
  g.signal == .requesting || g.signal == .releasing ||
    (g.operatesBidir && g.farRequest != (g.eff.cls, g.eff.chan) && !(g.eff.cls == .trial && g.eff.isLocal))

/-- R79: the group's transmitted word. -/
def Group.txWord (g : Group) : Word16 :=
  Pcw.build (ReqClass.code g.eff.cls) g.eff.chan g.bridged (g.arch == .oneToN) g.bidir g.revertive

/-- A channel number as a bridge command (R79). -/
def bridgeCmd (b : Nat) : BridgeCmd := if h : 1 ≤ b ∧ b ≤ 6 then .channel ⟨b - 1, by omega⟩ else .none

/-- R79: the outbound fields of a member line of an in-service group. -/
def Group.cmdFor (g : Group) (l : LineIx) : LineCmd :=
  if g.prot = l then ⟨bridgeCmd g.bridged, .own, g.txWord⟩
  else match g.chanOf l with
    | some k => ⟨.none, if g.selected = k.val + 1 then .protection else .own, idleWord⟩
    | none => ⟨.hold, .hold, idleWord⟩

/-- R2: the outbound fields of a line that no owner commands. -/
def LineCmd.unowned : LineCmd := ⟨.hold, .hold, idleWord⟩

/-- R65: the coverage of a line; true is COVERED. -/
def Protection.coverage (p : Protection) (l : LineIx) : Bool :=
  match p.role l with
  | .none => false
  | .working gi k =>
    match p.groups.get gi with
    | some g => g.inService && g.eff.cls != .lockout && !g.crossed && !(g.list.any (·.cls == .protFail)) &&
        (g.selected == 0 || g.selected == k.val + 1)
    | none => false
  | .protection gi =>
    match p.groups.get gi with
    | some g => g.inService && g.selected == 0
    | none => false

/-- R59: the channel condition a line gives. -/
def Line.chanCond (ln : Line) : ChanCond := if ln.rawFail then .sf else if ln.rawDegrade then .sd else .none

/-- R59: the class of the signal entry of a condition. -/
def ChanCond.cls : ChanCond → ReqClass
  | .sf => .signalFail
  | _ => .signalDegrade

/-- R82: the pass test of an outstanding TRIAL. -/
def Group.trialPasses (g : Group) (trial : ReqEntry) : Bool := g.farRequest == (.trial, trial.chan)

/-! ## Timing candidates (R89 to R100) -/

/-- The two station candidates, SC1 and SC2. -/
def isStation (c : CandIx) : Bool := c.val < 2

/-- R96: a candidate is in use while it is enabled and its source is not NONE. -/
def Candidate.inUse (c : Candidate) : Bool := c.enabled && c.source != .none

/-- R92: a candidate has an input: a station input, or the reference of its resolved line. -/
def Candidate.hasInput (c : Candidate) : Bool := c.inUse && (c.source == .station || c.resolved.isSome)

/-- R89: the resolved line of a source. -/
def resolveSource (p : Protection) : CandSource → Option LineIx
  | .none => none
  | .station => none
  | .line l => some l
  | .group gi k =>
    match p.groups.get gi with
    | some g =>
      if g.inService then
        (match g.lineOf k with
        | some w => some (if g.selected = k.val + 1 then g.prot else w)
        | none => none)
      else none
    | none => none

/-- The reason set is empty. -/
def Reasons.isEmpty (r : Reasons) : Bool := !(r.activity || r.offset || r.lineDefect || r.cabling || r.source)

def Reasons.empty : Reasons := ⟨false, false, false, false, false⟩

/-- R91: SOURCE is present while the source is a group channel and the resolved line is none. -/
def sourceReason (src : CandSource) (resolved : Option LineIx) : Bool :=
  match src with
  | .group _ _ => resolved.isNone
  | _ => false

/-- R91: LINE_DEFECT on a resolved line. -/
def lineDefectReason (lines : Vector Line 16) : Option LineIx → Bool
  | some l => (lines.get l).defect
  | none => false

/-- R91: CABLING on a resolved line's port. -/
def cablingReason (cb : Cabling) : Option LineIx → Bool
  | some l => (cb.ports.get l).state != .agreed
  | none => false

/-- R100: the effective quality. -/
def effectiveQuality (lines : Vector Line 16) (c : Candidate) : Nat :=
  match c.resolved with
  | some l => if (lines.get l).lastGood.quality = 0#4 then c.defQual else (lines.get l).lastGood.quality.toNat
  | none => c.defQual

/-- R100: eligibility, for an effective quality and the shelf quality setting. -/
def eligibleWith (shelfQuality effQual : Nat) (c : Candidate) : Bool :=
  c.state == .qualified && c.enabled && !c.lockout && effQual != 15 && effQual ≤ shelfQuality

/-- R95: the offset of a gate of exponent `g` that counted `n` cycles. -/
def gateOffset (g n : Nat) : Int :=
  clampInt Config.fullScale (((40960000 * 2 ^ g : Nat) - (n : Int)) * (2 ^ (3 - g) : Nat))

/-! ## The Clock Controller (R105, R116, R117, R119) -/

/-- R105: candidate `c` comes before `d` in the selection order. -/
def ordersBefore (ref : RefMonitor) (c d : CandIx) : Bool :=
  let x := ref.cands.get c
  let y := ref.cands.get d
  x.effQual < y.effQual || (x.effQual == y.effQual && (x.priority < y.priority || (x.priority == y.priority && c < d)))

/-- R105: the first eligible candidate in the selection order. -/
def firstEligible (ref : RefMonitor) : Option CandIx :=
  allCands.foldl (fun best c =>
    if (ref.cands.get c).eligible then
      (match best with
      | none => some c
      | some b => if ordersBefore ref c b then some c else some b)
    else best) none

/-- R120: the place of a candidate in the selection order, 1 to 6, or 0 when it is not eligible. -/
def selectionPlace (ref : RefMonitor) (c : CandIx) : Nat :=
  if (ref.cands.get c).eligible then
    1 + (allCands.filter fun d => (ref.cands.get d).eligible && ordersBefore ref d c).length
  else 0

/-- R105: the selection. -/
def selection (ref : RefMonitor) (k : Clock) : Option CandIx :=
  match k.slot with
  | .forceHoldover => none
  | .forceRef c => if (ref.cands.get c).eligible then some c else none
  | .none =>
    if k.settings.revertive then firstEligible ref
    else match k.selected with
      | some c => if (ref.cands.get c).eligible then some c else firstEligible ref
      | none => firstEligible ref

/-- R116: the own quality. -/
def ownQuality (ref : RefMonitor) (k : Clock) : Nat :=
  match k.loop with
  | .freeRun => k.settings.shelfQuality
  | .holdover => if k.aged then k.settings.shelfQuality else max k.lastLocked k.settings.holdoverQuality
  | _ =>
    match k.selected with
    | some c => (ref.cands.get c).effQual
    | none => k.settings.shelfQuality

/-- R117: the feeding line. -/
def feedingLine (ref : RefMonitor) (k : Clock) : Option LineIx :=
  match k.loop, k.selected with
  | .acquiring, some c => (ref.cands.get c).resolved
  | .locked, some c => (ref.cands.get c).resolved
  | _, _ => none

/-- R119: the shelf's clock conditions. -/
def clockConds (ref : RefMonitor) (k : Clock) : ClockConds :=
  { holdover := k.loop == .holdover
    freeRun := k.loop == .freeRun && (allCands.any fun c => (ref.cands.get c).inUse)
    aged := k.aged
    steerLimit := k.steerLimit }

/-- R118: the high count of a steering frame. -/
def highCountFor (positive : Bool) (steer : Int) : Nat := if positive then (32768 + steer).toNat else (32768 - steer).toNat

/-! ## The lamp code (R18) -/

/-- R18: order 3: the cabling state makes the lamp AMBER. -/
def CableState.amber : CableState → Bool
  | .agreed => false
  | .vacantOk => false
  | .unplanned => false
  | .unverified => false
  | _ => true

/-- R18: the lamp code of a line. -/
def lampCode (ln : Line) (cb : Cabling) (l : LineIx) : Lamp :=
  if (cb.ports.get l).locate.isSome || cb.partnerLit l then .locateFlash
  else if ln.soak.lol.integrated || ln.soak.lfa.integrated || ln.soak.exc.integrated || ln.soak.cardAbsent.integrated then .red
  else if (cb.ports.get l).state.amber || ln.soak.sd.integrated then .amber
  else if ln.presence == .present && ln.settings.equipped then .green
  else .off

/-! ## Alarms (R122, R123, R131, R135, R139, R140) -/

/-- R122: a holder's condition is active at present. MOVE_EXPIRED is transient: no holder holds it (R128). -/
def State.condActive (s : State) : Alarm → Bool
  | .line .lineLol l => (s.lines.get l).soak.lol.integrated
  | .line .lineLfa l => (s.lines.get l).soak.lfa.integrated
  | .line .lineFfi l => (s.lines.get l).soak.ffi.integrated
  | .line .lineRfi l => (s.lines.get l).soak.rfi.integrated
  | .line .lineExc l => (s.lines.get l).soak.exc.integrated
  | .line .lineSd l => (s.lines.get l).soak.sd.integrated
  | .line .cardAbsent l => (s.lines.get l).soak.cardAbsent.integrated
  | .line .cardUnreadable l => (s.lines.get l).soak.cardUnreadable.integrated
  | .line .selectorFault l => (s.lines.get l).selectorFault
  | .line .moveExpired _ => false
  | .line t l => (s.cabling.ports.get l).state.alarm? == some t
  | .group .protocolFault g => ((s.prot.groups.get g).map (·.protoFault)).getD false
  | .group .modeMismatch g => ((s.prot.groups.get g).map (·.mismatch)).getD false
  | .group .groupCrossed g => ((s.prot.groups.get g).map (·.crossed)).getD false
  | .refDisqualified c => (s.ref.cands.get c).state == .disqualified
  | .shelf .clockHoldover => (clockConds s.ref s.clock).holdover
  | .shelf .clockFreeRun => (clockConds s.ref s.clock).freeRun
  | .shelf .holdoverAged => s.clock.aged
  | .shelf .steerLimit => s.clock.steerLimit

/-- R135: the line types of the walk of the lines, in code order. -/
def walkLineTypes : List LineAlarm :=
  [.lineLol, .lineLfa, .lineFfi, .lineRfi, .lineExc, .lineSd, .cardAbsent, .cardUnreadable, .selectorFault]

/-- R135: the cabling types of the walk of the ports, in code order. -/
def walkCableTypes : List LineAlarm := [.cableMissing, .cableUnexpected, .cableMismatch, .cableSwapped, .cableUnreadable]

/-- R135: the conditions in the order in which the refill pass walks them. -/
def refillWalk : List Alarm :=
  (allLines.flatMap fun l => walkLineTypes.map (Alarm.line · l)) ++
  (allLines.flatMap fun l => walkCableTypes.map (Alarm.line · l)) ++
  (allGroups.flatMap fun g => [Alarm.group .protocolFault g, .group .modeMismatch g, .group .groupCrossed g]) ++
  (allCands.map Alarm.refDisqualified) ++
  [.shelf .clockHoldover, .shelf .clockFreeRun, .shelf .holdoverAged, .shelf .steerLimit]

/-- R131: the service-affecting flag of an alarm: SA on an UNCOVERED line. -/
def AlarmTable.saFor (t : AlarmTable) (a : Alarm) : Option Bool := (Alarm.line? a).map fun l => !t.grading.get l

/-- R131: the profile value of a type for a service-affecting flag; a type with no line object has one severity. -/
def AlarmTable.severityFor (t : AlarmTable) (a : Alarm) (sa : Option Bool) : Severity :=
  if sa = some false then (t.profile.get (Alarm.typeIx a)).nsa else (t.profile.get (Alarm.typeIx a)).sa

/-- R131: the severity of an alarm by the present coverage. -/
def AlarmTable.gradeOf (t : AlarmTable) (a : Alarm) : Severity := t.severityFor a (t.saFor a)

/-- The place of an alarm's entry in the list. -/
def AlarmTable.indexOf (t : AlarmTable) (a : Alarm) : Option Nat := t.entries.findIdx? (·.alarm == a)

/-- 8: the severities of the ACTIVE entries, the fixed entry included. -/
def AlarmTable.activeSeverities (t : AlarmTable) : List Severity :=
  ((t.entries.filter (·.active)).map (·.severity)) ++ (if t.fixed.state = .active then [t.fixed.severity] else [])

/-- 8: the severities of the ACTIVE entries that are not acknowledged, the fixed entry included. -/
def AlarmTable.unackedSeverities (t : AlarmTable) : List Severity :=
  ((t.entries.filter fun e => e.active && !e.acked).map (·.severity)) ++
    (if t.fixed.state = .active && !t.fixed.acked then [t.fixed.severity] else [])

/-- The highest of some severities. -/
def highest (ss : List Severity) : Option Severity :=
  if ss.contains .critical then some .critical
  else if ss.contains .major then some .major
  else if ss.contains .minor then some .minor
  else if ss.contains .warning then some .warning
  else none

/-- R140: the pattern a severity names. -/
def Severity.pattern : Severity → Option DescIx
  | .critical => some .critical
  | .major => some .major
  | .minor => some .minor
  | .warning => none

/-- R140: the required pattern. -/
def requiredPattern (t : AlarmTable) (aco : Option Severity) : Option DescIx :=
  if aco.isSome then none else (highest t.unackedSeverities).bind Severity.pattern

def DescIx.ix : DescIx → Fin 5
  | .critical => 0
  | .major => 1
  | .minor => 2
  | .ackChirp => 3
  | .moveChirp => 4

/-- A chirp, which is not an alarm pattern (8.2). -/
def DescIx.isChirp : DescIx → Bool
  | .ackChirp => true
  | .moveChirp => true
  | _ => false

/-- R145: a switch is made at a step end of the descriptor `d` with the required pattern `r`. -/
def switches (d : DescIx) (r : Option DescIx) : Bool := if d.isChirp then r.isSome else r != some d

/-! ## Events (R162, R164) -/

/-- R162: an event is routed to a port's queue. -/
def EventBody.routedTo (b : EventBody) (p : LinkPort) : Bool :=
  match b with
  | .protSwitched .. => p != .c
  | .protRequest .. => p != .c
  | .refState .. => p != .c
  | .clockState .. => p != .c
  | .requestPreempted _ issuer .. => p == issuer
  | .clockPreempted issuer .. => p == issuer
  | .requestClearedByOther _ issuer .. => p == issuer
  | .resync => false
  | _ => true

/-- R162: the four urgent kinds. -/
def EventBody.urgent : EventBody → Bool
  | .protSwitched .. => true
  | .clockState .. => true
  | .alarmRaised _ sev .. => sev == .critical
  | .alarmSeverity _ _ new _ => new == .critical
  | _ => false

/-- R163: the capacity of a port's queue. -/
def queueCap : LinkPort → Nat
  | .c => Config.craftQueueCap
  | _ => Config.ctrlQueueCap

/-- R164: the service request of a queue. -/
def srqFor (events : List Event) (threshold : Nat) : Bool :=
  threshold ≤ events.length || events.any (·.body.urgent)

end Sys2Proof.Machine
end

