-- ==== Sys2Proof/Machine/Ops.lean ====
section
/-!
DEFINITION. Machine/Ops.lean: the named operations every block uses: reading and changing one line, port, group or
candidate; issuing an event (R161 to R164); taking a command and answering it (R150 to R156); and drawing free values.
-/
namespace Sys2Proof.Machine

/-! ## One line, port, group or candidate -/

def State.line (s : State) (l : LineIx) : Line := s.lines.get l
def State.port (s : State) (l : LineIx) : CablePort := s.cabling.ports.get l
def State.group (s : State) (g : GroupIx) : Option Group := s.prot.groups.get g
def State.cand (s : State) (c : CandIx) : Candidate := s.ref.cands.get c

def State.setLine (s : State) (l : LineIx) (x : Line) : State := { s with lines := s.lines.set l.val x }

def State.setPort (s : State) (l : LineIx) (x : CablePort) : State :=
  { s with cabling := { s.cabling with ports := s.cabling.ports.set l.val x } }

def State.setGroup (s : State) (g : GroupIx) (x : Option Group) : State :=
  { s with prot := { s.prot with groups := s.prot.groups.set g.val x } }

def State.setCand (s : State) (c : CandIx) (x : Candidate) : State :=
  { s with ref := { s.ref with cands := s.ref.cands.set c.val x } }

def State.modPort (s : State) (l : LineIx) (f : CablePort → CablePort) : State := s.setPort l (f (s.port l))

/-- A change of a group's record; an unconfigured group has none to change. -/
def State.modGroup (s : State) (g : GroupIx) (f : Group → Group) : State :=
  match s.group g with
  | some x => s.setGroup g (some (f x))
  | none => s

def State.modCand (s : State) (c : CandIx) (f : Candidate → Candidate) : State := s.setCand c (f (s.cand c))

/-- The work `f` done for each of a list of things, in order. -/
def forEach {α : Type} (xs : List α) (f : α → State → State) (s : State) : State := xs.foldl (fun t x => f x t) s

/-! ## Free values -/

/-- The free value of a site at this moment. -/
def State.draw (s : State) (site : Config.Site) : Nat := Config.free s.free site

/-- A free choice between two orders. -/
def State.flip (s : State) (site : Config.Site) : Bool := s.draw site % 2 == 1

/-- Later draws are made afresh. -/
def State.spend (s : State) : State := { s with free := s.free + 1 }

/-! ## Timed events (log entry 6) -/

/-- A tick takes the timed event `i` with it: the event's work `f` is done, and the event noted. -/
def State.fire (i : Instr) (f : State → State) (s : State) : State := { f s with fired := (f s).fired ++ [i] }

/-- The row of a timed event does its work, unless the last tick took that very event with it. -/
def State.timed (i : Instr) (f : State → State) (s : State) : State :=
  if s.fired.contains i then { s with fired := s.fired.erase i } else f s

/-! ## Event queues (R161 to R164) -/

/-- R164: the service request is formed again. -/
def EventQueue.form (q : EventQueue) : EventQueue := { q with srq := srqFor q.events q.threshold }

/-- R163: an event is appended, or discarded with the overrun flag set when the queue is full. -/
def EventQueue.append (cap : Nat) (e : Event) (q : EventQueue) : EventQueue :=
  if q.events.length < cap then EventQueue.form { q with events := q.events ++ [e] } else { q with overrun := true }

def Links.queue (k : Links) : LinkPort → EventQueue
  | .a => k.queueA
  | .b => k.queueB
  | .c => k.queueC

def Links.setQueue (k : Links) (p : LinkPort) (q : EventQueue) : Links :=
  match p with
  | .a => { k with queueA := q }
  | .b => { k with queueB := q }
  | .c => { k with queueC := q }

/-- R162: an event reaches the queue of one port if it is routed there. -/
def Links.offer (e : Event) (p : LinkPort) (k : Links) : Links :=
  if e.body.routedTo p then k.setQueue p ((k.queue p).append (queueCap p) e) else k

/-- R161, R162: an event is appended to the queue of each port entitled to it. -/
def Links.deliver (e : Event) (k : Links) : Links := ((k.offer e .a).offer e .b).offer e .c

/-- R161: a block issues an event, stamped with the seconds counter. -/
def State.issue (b : EventBody) (s : State) : State := { s with links := s.links.deliver ⟨s.time.seconds, b⟩ }

/-! ## Commands and responses (R150 to R156) -/

/-- What a command does once it is taken: the new state and the response. -/
abbrev Command := State → State × Response

/-- A command refused with a status: nothing changes. -/
def refuseWith (st : Status) : Command := fun s => (s, ⟨st, []⟩)

/-- A command taken: the new state, with OK or OK_CLAMPED. -/
def taken (clamped : Bool) (s : State) : State × Response := (s, ⟨okStatus clamped, []⟩)

/-- R159: a read: no change, and the packed results. -/
def results (fs : List Field) (s : State) : State × Response := (s, ⟨.ok, pack fs⟩)

/-- R156: a command that Port C may not use. -/
def ctrlOnly (p : LinkPort) (cmd : Command) : Command := if p = .c then refuseWith .notPermitted else cmd

/-- R150, R152: the response is placed in the port's response buffer and the exchange or receiver moves on. -/
def State.answer (p : LinkPort) (r : Response) (s : State) : State :=
  match p with
  | .a => { s with links := { s.links with responseA := some r, exchangeA := .answered }, free := s.free + 1 }
  | .b => { s with links := { s.links with responseB := some r, exchangeB := .answered }, free := s.free + 1 }
  | .c => { s with links := { s.links with responseC := some r, receiver := .answering false }, free := s.free + 1 }

/-- R153: a frame has completed on a port: the owning block acts on a command that is taken, and the port answers. -/
def State.takeCommand (p : LinkPort) (cmd : Command) (s : State) : State := (cmd s).1.answer p (cmd s).2

end Sys2Proof.Machine
end

