-- ==== Sys2Proof/Machine/Office.lean ====
section
/-!
DEFINITION. Machine/Office.lean: the Office Alarm Unit (Section 8): relays, alarm cutoff, the cadence engine, the
pushbutton, and the commands ALARM CUTOFF, CADENCE LOAD and READ OFFICE.
-/
namespace Sys2Proof.Machine

def State.setOffice (s : State) (o : Office) : State := { s with office := o }

/-! ## The cadence engine (R143 to R146) -/

/-- R144: the next step of descriptor `d` is copied into the buffer, if a fetch remains. -/
def Office.fetch (o : Office) (d : DescIx) : Office :=
  let x := o.descs.get d.ix
  if x.loops = false ∧ x.length ≤ o.fetchPos then o
  else
    let i : Fin 32 := x.start + Fin.ofNat 32 o.fetchPos
    let next := o.fetchPos + 1
    { o with buffer := some (i, o.memory.get i)
             fetchPos := if x.length ≤ next then (if x.loops then 0 else x.length) else next }

/-- R141 step 2, R144 step 1: the engine becomes IDLE. -/
def Office.stop (o : Office) : Office := { o with playing := none, active := none, buffer := none, restart := false }

/-- R144, at a step end: the buffer's step becomes the active step and the buffer is refilled; with an empty buffer the
pattern is complete. -/
def Office.advance (o : Office) (d : DescIx) : Office :=
  match o.buffer with
  | none => o.stop
  | some (i, st) =>
    Office.fetch { o with active := some ⟨i, st, (o.descs.get d.ix).tone, (o.descs.get d.ix).tempo⟩, buffer := none } d

/-- R144, R145: the pattern of descriptor `d` starts from its first step. -/
def Office.start (o : Office) (d : DescIx) : Office :=
  (Office.fetch { o with playing := some d, fetchPos := 0, buffer := none, restart := false } d).advance d

/-- R144, R145: the end of the active step. -/
def Office.stepEnd (o : Office) : Office :=
  match o.playing with
  | none => o
  | some d =>
    if switches d o.required then
      (match o.required with
      | none => o.stop
      | some r => o.start r)
    else if o.restart then o.start d
    else o.advance d

/-- R140, R145: the required pattern is formed again; an idle engine starts a pattern that arises. -/
def Office.require (o : Office) (r : Option DescIx) : Office :=
  if r = o.required then o
  else match o.playing, r with
    | none, some d => Office.start { o with required := r } d
    | _, _ => { o with required := r }

/-- R146: a chirp starts if the engine is IDLE and is discarded otherwise. -/
def Office.chirp (o : Office) (ch : Chirp) : Office :=
  match o.playing, ch with
  | none, .ack => o.start .ackChirp
  | none, .move => o.start .moveChirp
  | some _, _ => o

def State.chirp (ch : Chirp) (s : State) : State := s.setOffice (s.office.chirp ch)

/-! ## Offers and alarm cutoff (R139 to R142) -/

/-- R139: the relays are set from the ACTIVE entries. -/
def Office.setRelays (o : Office) (active : List Severity) : Office :=
  { o with relayCrit := active.contains .critical, relayMaj := active.contains .major, relayMin := active.contains .minor }

/-- The severity of an entry that is ACTIVE and not acknowledged; `none` names the fixed entry. -/
def AlarmTable.sounding (t : AlarmTable) : Option Alarm → Option Severity
  | some a =>
    match t.entries.find? (·.alarm == a) with
    | some e => if e.active && !e.acked then some e.severity else none
    | none => none
  | none => if t.fixed.state = .active && !t.fixed.acked then some t.fixed.severity else none

/-- R142: the cause with which one item of an offer ends an ACO of severity `sev`. -/
def endsAco (t : AlarmTable) (sev : Severity) (x : OfferItem) : Option AcoCause :=
  match t.sounding x.alarm with
  | none => none
  | some v =>
    if Severity.above sev v then none
    else match x.kind with
      | .raise => some .raise
      | .rise => some .rise
      | _ => none

/-- R142: the cause with which an offer ends ACO, if it does. -/
def acoEndCause (t : AlarmTable) (sev : Severity) (items : List OfferItem) : Option AcoCause :=
  match items.findSome? (endsAco t sev) with
  | some c => some c
  | none => if t.unackedSeverities.isEmpty then some .noneLeft else none

/-- R140: the required pattern is formed again from the table and the ACO state. -/
def State.formRequired (s : State) : State := s.setOffice (s.office.require (requiredPattern s.alarms s.office.aco))

/-- R142: ACO ends where the offer gives a cause. -/
def State.testAco (items : List OfferItem) (s : State) : State :=
  match s.office.aco with
  | none => s
  | some sev =>
    match acoEndCause s.alarms sev items with
    | none => s
    | some c => (s.setOffice { s.office with aco := none }).issue (.acoState none c)

/-- R136, R139 to R142: an offer of the Alarm Table. -/
def State.officeOffer (items : List OfferItem) (s : State) : State :=
  ((s.setOffice (s.office.setRelays s.alarms.activeSeverities)).testAco items).formRequired

/-- R141, steps 1 to 3: the highest unacknowledged severity is recorded, the engine stopped, the required pattern formed. -/
def State.silence (s : State) : State :=
  State.formRequired (s.setOffice (Office.stop { s.office with aco := highest s.alarms.unackedSeverities }))

/-- R141: an alarm cutoff. -/
def State.cutoff (cause : AcoCause) (s : State) : State :=
  let t := s.silence
  (t.issue (.acoState t.office.aco cause)).chirp .ack

/-! ## The pushbutton (R141) -/

/-- R141: an accepted change of ACO_PB* to low is a press. -/
def State.pressButton (s : State) : State :=
  State.cutoff .pushbutton (s.setOffice { s.office with buttonHigh := false, buttonCount := 0 })

/-- R141: an accepted change to high re-arms the button. -/
def State.releaseButton (s : State) : State := s.setOffice { s.office with buttonHigh := true, buttonCount := 0 }

/-- R141: the level of ACO_PB* at a 1 ms tick; `high` is its sample. -/
def State.sampleButton (high : Bool) (s : State) : State :=
  if high = s.office.buttonHigh then s.setOffice { s.office with buttonCount := 0 }
  else if s.office.buttonCount + 1 < 10 then s.setOffice { s.office with buttonCount := s.office.buttonCount + 1 }
  else if high then s.releaseButton
  else s.pressButton

/-! ## CADENCE LOAD (R147) -/

/-- R147, R169: a step of the step form: refused where its kind or tie is neither 0 nor 1; the duration clamped. -/
def readStep (x : RawStep) : Option (CadStep × Bool) :=
  match readFlag x.kind, readFlag x.tie with
  | some tone, some tie => some (⟨tone, clamp 1 64 x.duration.toNat, tie⟩, clamp 1 64 x.duration.toNat != x.duration.toNat)
  | _, _ => none

/-- Steps written to the memory from an index onward. -/
def writeSteps (m : Vector CadStep 32) : Nat → List CadStep → Vector CadStep 32
  | _, [] => m
  | i, x :: xs => writeSteps (m.setIfInBounds i x) (i + 1) xs

/-- R147: CADENCE LOAD, step form. -/
def cmdCadenceSteps (first : Byte) (steps : List RawStep) : Command := fun s =>
  match steps.mapM readStep with
  | none => refuseWith .outOfRange s
  | some xs =>
    if first.toNat < 32 ∧ 1 ≤ steps.length ∧ steps.length ≤ 16 ∧ first.toNat + steps.length ≤ 32 then
      taken (xs.any (·.2)) (s.setOffice { s.office with memory := writeSteps s.office.memory first.toNat (xs.map (·.1)) })
    else refuseWith .outOfRange s

/-- R147: CADENCE LOAD, descriptor form. A write of the descriptor being played marks a restart. -/
def cmdCadenceDescriptor (x : DescriptorParams) : Command := fun s =>
  match readDescIx x.desc, readStepIx x.start, readFlag x.mode with
  | some d, some start, some once =>
    let length := clamp 1 32 x.length.toNat
    let tone := clamp 3 255 x.tone.toNat
    let tempo := clamp 0 31 x.tempo.toNat
    taken (length != x.length.toNat || tone != x.tone.toNat || tempo != x.tempo.toNat)
      (s.setOffice { s.office with
        descs := s.office.descs.set d.ix.val ⟨start, length, !once, tone, tempo⟩
        restart := s.office.restart || s.office.playing == some d })
  | _, _, _ => refuseWith .outOfRange s

/-- R141: ALARM CUTOFF, always answered OK. -/
def cmdAlarmCutoff (p : LinkPort) : Command := fun s => taken false (s.cutoff (.command p))

/-! ## READ OFFICE (R148, R169) -/

/-- A value the manual does not state, sent in one byte: a free value (log entry 4). -/
def State.freeByte (s : State) (site : Config.Site) : Field := .qty 1 (s.draw site % 256)

/-- A value the manual does not state, sent as a code of four bits: a free value (log entry 4). -/
def State.freeCode (s : State) (site : Config.Site) : Field := .code (s.draw site % 16)

/-- The code of the required pattern, in the order CRITICAL, MAJOR, MINOR, none. -/
def requiredCode : Option DescIx → Nat
  | some .critical => 0
  | some .major => 1
  | some .minor => 2
  | _ => 3

/-- R148: the STATE part. Ticks elapsed in the active step are a free value below its duration (log entry 4).
The ACO severity has the codes 1 to 4 of 11.5, with 0 for none as in 11.6's ACO_STATE, and no numbering of its own from 0 (log
entry 42). -/
def officeState (s : State) : List Field :=
  let o := s.office
  List.flatten [
    [.bit o.relayCrit, .bit o.relayMaj, .bit o.relayMin, .bit o.buttonHigh, .bit o.aco.isSome,
       .code ((o.aco.map Severity.code).getD 0), .code (requiredCode o.required), .bit o.playing.isSome,
       (match o.playing with
        | some d => .code d.ix.val
        | none => s.freeCode .noStep)],
    (match o.active with
       | some a => [.qty 1 a.index.val, .bit a.step.tone, .qty 1 a.step.duration, .bit a.step.tie,
                    .qty 1 (s.draw .stepTicks % a.step.duration)]
       | none => [s.freeByte .noStep, .bit (s.flip .noStep), s.freeByte .noStep, .bit (s.flip .noStep), s.freeByte .noStep]),
    (match o.buffer with
       | some (i, st) => [.bit true, .qty 1 i.val, .bit st.tone, .qty 1 st.duration, .bit st.tie]
       | none => [.bit false, s.freeByte .noStep, .bit (s.flip .noStep), s.freeByte .noStep, .bit (s.flip .noStep)]),
    [.qty 1 o.fetchPos,
       .bit (match o.playing with
        | some d => switches d o.required || o.restart
        | none => false)]]

/-- R148: the DESCRIPTORS part. -/
def officeDescs (s : State) : List Field :=
  s.office.descs.toList.flatMap fun d =>
    [.qty 1 d.start.val, .qty 1 d.length, .bit (!d.loops), .qty 1 d.tone, .qty 1 d.tempo]

/-- R148: the steps that the STEPS part returns: up to 16 from a first index, not past index 31. -/
def officeStepsFrom (s : State) (first : Nat) : List (Nat × CadStep) :=
  ((s.office.memory.toList.zipIdx.drop first).take 16).map fun x => (x.2, x.1)

/-- R148: the STEPS part: each step's index, kind, duration and tie flag. The fields are laid one after another, each for
all the steps, so that 16 steps fit the 61 result bytes (R159, R169; log entry 5). -/
def officeSteps (s : State) (first : Nat) : List Field :=
  let xs := officeStepsFrom s first
  List.flatten [xs.map fun x => .qty 1 x.1, xs.map fun x => .bit x.2.tone, xs.map fun x => .qty 1 x.2.duration,
    xs.map fun x => .bit x.2.tie]

/-- R148: READ OFFICE. -/
def cmdReadOffice (part first : Byte) : Command := fun s =>
  match part.toNat with
  | 0 => results (officeState s) s
  | 1 => results (officeDescs s) s
  | 2 => if first.toNat < 32 then results (officeSteps s first.toNat) s else refuseWith .outOfRange s
  | _ => refuseWith .outOfRange s

/-! ## The meanings -/

/-- OFFICE_OFFER (R136, R139 to R142). -/
def execOfficeOffer (items : List OfferItem) (s : State) : Host.Outcome State Fault Refusal := .next (s.officeOffer items)

/-- CHIRP_REQUEST (R146). -/
def execChirpRequest (ch : Chirp) (s : State) : Host.Outcome State Fault Refusal := .next (s.chirp ch)

/-- CADENCE_STEP_END (R144, R145): an IDLE engine has no active step to end. -/
def execCadenceStepEnd (s : State) : Host.Outcome State Fault Refusal := .next (s.setOffice s.office.stepEnd)

/-- PUSHBUTTON_PRESS (R141): a change of the accepted level from high to low. -/
def execPushbuttonPress (s : State) : Host.Outcome State Fault Refusal :=
  .next (if s.office.buttonHigh then s.pressButton else s)

/-- PUSHBUTTON_RELEASE (R141): a change of the accepted level from low to high. -/
def execPushbuttonRelease (s : State) : Host.Outcome State Fault Refusal :=
  .next (if s.office.buttonHigh then s else s.releaseButton)

end Sys2Proof.Machine
end

