-- ==== Sys2Proof/Machine/AlarmTable.lean ====
section
/-!
DEFINITION. Machine/AlarmTable.lean: the Alarm Table (Section 7): raises, clears, acknowledgement, removal, grading by
coverage, eviction, TABLE_FULL, the refill pass, and the commands SEVERITY SETUP, ALARM ACKNOWLEDGE and READ ALARMS.
-/
namespace Sys2Proof.Machine

def State.setAlarms (s : State) (t : AlarmTable) : State := { s with alarms := t }

def State.setEntries (s : State) (es : List AlarmEntry) : State := s.setAlarms { s.alarms with entries := es }

def State.setFixed (s : State) (f : FixedEntry) : State := s.setAlarms { s.alarms with fixed := f }

/-- R136: an offer of some changes; no change, no offer. -/
def State.offerItems (items : List OfferItem) (s : State) : State := if items.isEmpty then s else s.officeOffer items

/-- R128: the transient type. -/
def Alarm.transient : Alarm → Bool
  | .line .moveExpired _ => true
  | _ => false

/-! ## Raise (R125, R126, R128, R133, R134) -/

/-- R125: a new entry. -/
def AlarmTable.newEntry (t : AlarmTable) (now : Word32) (a : Alarm) : AlarmEntry :=
  { alarm := a, severity := t.gradeOf a, active := true, acked := false, raisedAt := now, clearedAt := none, count := 1,
    sa := t.saFor a }

/-- R126: an entry raised again in place. -/
def AlarmTable.reraised (t : AlarmTable) (now : Word32) (e : AlarmEntry) : AlarmEntry :=
  { e with severity := t.gradeOf e.alarm, active := true, acked := false, raisedAt := now, clearedAt := none,
           count := min 255 (e.count + 1), sa := t.saFor e.alarm }

/-- R125: the ALARM_RAISED event of an entry; its index is its place in the list, counted from 1. -/
def State.issueRaised (e : AlarmEntry) (s : State) : State :=
  s.issue (.alarmRaised (some e.alarm) e.severity e.sa e.count (((s.alarms.indexOf e.alarm).map (· + 1)).getD 0))

/-- R125: a new entry joins at the end of the list, with its event if events are issued. -/
def State.addEntry (events : Bool) (a : Alarm) (s : State) : State :=
  let e := s.alarms.newEntry s.time.seconds a
  let t := s.setEntries (s.alarms.entries ++ [e])
  if events then t.issueRaised e else t

/-- R126, R128: the entry of `e.alarm` is raised again in place. -/
def State.reraise (e : AlarmEntry) (s : State) : State :=
  let e' := s.alarms.reraised s.time.seconds e
  let t := s.setEntries (s.alarms.entries.map fun x => if x.alarm = e.alarm then e' else x)
  (t.issueRaised e').officeOffer [⟨.raise, some e.alarm⟩]

/-- R133: the CLEARED entry with the lowest cleared-at, the earlier among equals. -/
def evictionVictim (es : List AlarmEntry) : Option AlarmEntry :=
  es.foldl (fun best e =>
    match e.active, e.clearedAt with
    | false, some t =>
      (match best with
      | some b => (match b.clearedAt with
        | some u => if t.toNat < u.toNat then some e else some b
        | none => some b)
      | none => some e)
    | _, _ => best) none

/-- R130: an entry leaves the list, and the removal is offered. -/
def State.removeEntry (a : Alarm) (s : State) : State :=
  (s.setEntries (s.alarms.entries.filter fun e => e.alarm != a)).officeOffer [⟨.removal, some a⟩]

/-- R134, step 2: the fixed entry is raised. -/
def State.raiseFixed (s : State) : State :=
  let sev := (s.alarms.profile.get tableFullIx).sa
  let raised (n : Nat) : State :=
    ((s.setFixed { state := .active, severity := sev, acked := false, raisedAt := s.time.seconds, clearedAt := none,
                   count := n }).issue (.alarmRaised none sev none n 0)).officeOffer [⟨.raise, none⟩]
  match s.alarms.fixed.state with
  | .active => s
  | .idle => raised 1
  | .cleared => raised (min 255 (s.alarms.fixed.count + 1))

/-- R134: an alarm that is not recorded. -/
def State.notRecorded (a : Alarm) (s : State) : State :=
  (s.issue (.alarmNotRecorded a (s.alarms.gradeOf a) (s.alarms.saFor a))).raiseFixed

/-- R125 to R128, R133, R134: a raise of a type on an object. -/
def State.raiseAlarm (a : Alarm) (s : State) : State :=
  match s.alarms.entries.find? (·.alarm == a) with
  | some e => if e.active && !Alarm.transient a then s else s.reraise e
  | none =>
    if s.alarms.entries.length < Config.alarmCap then (s.addEntry true a).officeOffer [⟨.raise, some a⟩]
    else match evictionVictim s.alarms.entries with
      | some v => (State.addEntry true a (s.removeEntry v.alarm)).officeOffer [⟨.raise, some a⟩]
      | none => s.notRecorded a

/-! ## Clear and refill (R127, R135) -/

/-- R127 on the fixed entry: an ACTIVE fixed entry is cleared, and removed at once if it was acknowledged. -/
def State.clearFixed (s : State) : State :=
  let f := s.alarms.fixed
  if f.state = .active then
    let t := ((s.setFixed { f with state := .cleared, clearedAt := some s.time.seconds }).issue
      (.alarmCleared none f.severity none)).officeOffer [⟨.clear, none⟩]
    if f.acked then (t.setFixed (FixedEntry.idle f.severity)).officeOffer [⟨.removal, none⟩] else t
  else s

/-- One condition of the walk of R135: the state, the entries made, and whether the pass has stopped for want of space. -/
def refillOne (events : Bool) (acc : State × List OfferItem × Bool) (a : Alarm) : State × List OfferItem × Bool :=
  if acc.2.2 || !acc.1.condActive a || (acc.1.alarms.indexOf a).isSome then acc
  else if acc.1.alarms.entries.length < Config.alarmCap then
    (acc.1.addEntry events a, acc.2.1 ++ [⟨.raise, some a⟩], false)
  else (acc.1, acc.2.1, true)

/-- R135: the refill pass. `events` is false at a shelf restart, which issues no ALARM_RAISED for the entries.
The entries are offered to the Office Alarm Unit before the fixed entry is raised or cleared with its own offer (log entry 44). -/
def State.refill (events : Bool) (s : State) : State :=
  let r := refillWalk.foldl (refillOne events) (s, [], false)
  let t := r.1.offerItems r.2.1
  if r.2.2 then t.raiseFixed else t.clearFixed

/-- R130: after a removal that frees a place, the refill pass runs while the fixed entry is ACTIVE. -/
def State.refillIfFull (s : State) : State := if s.alarms.fixed.state = .active then s.refill true else s

/-- R127: the entry of `e.alarm` becomes CLEARED. -/
def State.markCleared (e : AlarmEntry) (s : State) : State :=
  let t := s.setEntries (s.alarms.entries.map fun x =>
    if x.alarm = e.alarm then { x with active := false, clearedAt := some s.time.seconds } else x)
  (t.issue (.alarmCleared (some e.alarm) e.severity e.sa)).officeOffer [⟨.clear, some e.alarm⟩]

/-- R127: a clear of a type on an object. The transient type is never cleared (R128). -/
def State.clearAlarm (a : Alarm) (s : State) : State :=
  match s.alarms.entries.find? (·.alarm == a) with
  | some e =>
    if e.active && !Alarm.transient a then
      let t := s.markCleared e
      if e.acked then (t.removeEntry a).refillIfFull else t
    else s
  | none => s

/-- R122: a holder hands over the present value of a condition that has changed. -/
def State.handAlarm (a : Alarm) (active : Bool) (s : State) : State := if active then s.raiseAlarm a else s.clearAlarm a

/-! ## Acknowledgement (R129, R130) -/

/-- R129: acknowledging an entry removes it: a CLEARED entry, or a MOVE_EXPIRED entry. -/
def AlarmEntry.ackRemoves (e : AlarmEntry) : Bool := !e.active || Alarm.transient e.alarm

/-- R129: the entries named and not yet acknowledged are treated, then offered, then the refill pass runs. -/
def State.acknowledge (named : Nat → AlarmEntry → Bool) (fixedNamed : Bool) (s : State) : State :=
  let es := s.alarms.entries.zipIdx.map fun x => (x.1, named (x.2 + 1) x.1 && !x.1.acked)
  let kept := es.filterMap fun x =>
    if x.2 then (if x.1.ackRemoves then none else some { x.1 with acked := true }) else some x.1
  let items := es.filterMap fun x =>
    if x.2 then some (⟨if x.1.ackRemoves then .removal else .acknowledgement, some x.1.alarm⟩ : OfferItem) else none
  let f := s.alarms.fixed
  let onFixed := fixedNamed && f.state != .idle && !f.acked
  let f' := if onFixed then (if f.state = .active then { f with acked := true } else FixedEntry.idle f.severity) else f
  let fixedItems : List OfferItem :=
    if onFixed then [⟨if f.state = .active then .acknowledgement else .removal, none⟩] else []
  let t := ((s.setEntries kept).setFixed f').offerItems (fixedItems ++ items)
  if es.any (fun x => x.2 && x.1.ackRemoves) then t.refillIfFull else t

/-- R129, index form. -/
def cmdAckIndex (index : Byte) : Command := fun s =>
  let i := index.toNat
  if i = 0 then
    (if s.alarms.fixed.state = .idle then refuseWith .outOfRange s
     else taken false (s.acknowledge (fun _ _ => false) true))
  else if i ≤ s.alarms.entries.length then taken false (s.acknowledge (fun j _ => j == i) false)
  else refuseWith .outOfRange s

/-- R129, severity form. -/
def cmdAckSeverity (severity : Byte) : Command := fun s =>
  match readSeverity severity with
  | some v => taken false (s.acknowledge (fun _ e => e.severity == v) (s.alarms.fixed.severity == v))
  | none => refuseWith .outOfRange s

/-- R129, ALL form. -/
def cmdAckAll : Command := fun s => taken false (s.acknowledge (fun _ _ => true) true)

/-! ## Grading (R123, R131, R132) -/

/-- R132: an entry graded again by the present coverage; a rise undoes its acknowledgement. -/
def AlarmTable.regraded (t : AlarmTable) (e : AlarmEntry) : AlarmEntry :=
  let sev := t.gradeOf e.alarm
  { e with severity := sev, sa := t.saFor e.alarm, acked := e.acked && !Severity.above sev e.severity }

/-- R132: the ALARM_SEVERITY event of a re-grade, where the severity changes. -/
def State.issueSeverity (a : Option Alarm) (old new : Severity) (sa : Option Bool) (s : State) : State :=
  if old = new then s else s.issue (.alarmSeverity a old new sa)

/-- R136: the kind of change of a re-grade. -/
def regradeItem (a : Option Alarm) (old new : Severity) : List OfferItem :=
  if old = new then [] else [⟨if Severity.above new old then .rise else .fall, a⟩]

/-- R132: the ACTIVE entries that `sel` names are graded again in list order, and the changes offered together. -/
def State.regrade (sel : AlarmEntry → Bool) (s : State) : State :=
  let hit := s.alarms.entries.filter fun e => sel e && e.active
  let t := s.setEntries (s.alarms.entries.map fun e => if sel e && e.active then s.alarms.regraded e else e)
  let u := forEach hit (fun e => State.issueSeverity (some e.alarm) e.severity (s.alarms.gradeOf e.alarm) (s.alarms.saFor e.alarm)) t
  u.offerItems (hit.flatMap fun e => regradeItem (some e.alarm) e.severity (s.alarms.gradeOf e.alarm))

/-- R131, R132: a line's coverage as handed over. -/
def State.coverageChange (l : LineIx) (covered : Bool) (s : State) : State :=
  (s.setAlarms { s.alarms with grading := s.alarms.grading.set l.val covered }).regrade fun e => Alarm.line? e.alarm == some l

/-- R123: the fixed entry graded again by a new severity of its type. -/
def State.regradeFixed (s : State) : State :=
  let f := s.alarms.fixed
  let sev := (s.alarms.profile.get tableFullIx).sa
  let t := s.setFixed { f with severity := sev, acked := f.acked && !(f.state == .active && Severity.above sev f.severity) }
  if f.state = .active then
    (t.issueSeverity none f.severity sev none).offerItems (regradeItem none f.severity sev)
  else t

/-- R123: the pair of a type takes new values, and every entry of the type is graded again. -/
def State.setSeverity (i : Fin 24) (g : Grade) (s : State) : State :=
  let t := s.setAlarms { s.alarms with profile := s.alarms.profile.set i.val g }
  let u := t.setEntries (t.alarms.entries.map fun e =>
    if Alarm.typeIx e.alarm = i ∧ e.active = false then { e with severity := t.alarms.severityFor e.alarm e.sa } else e)
  let v := u.regrade fun e => Alarm.typeIx e.alarm == i
  if i = tableFullIx then v.regradeFixed else v

/-- R123: SEVERITY SETUP. For a type whose object is not a line, both members take the SA value, and the NSA value is
ignored. -/
def cmdSeveritySetup (type sa nsa : Byte) : Command := fun s =>
  match readTypeIx type, readSeverity sa with
  | some i, some a =>
    if 15 ≤ i.val then taken false (s.setSeverity i ⟨a, a⟩)
    else (match readSeverity nsa with
      | some b => taken false (s.setSeverity i ⟨a, b⟩)
      | none => refuseWith .outOfRange s)
  | _, _ => refuseWith .outOfRange s

/-! ## Shelf restart (R138, R149) -/

/-- R138 step 1, R149 steps 1 to 3: the table is emptied, the relays follow, ACO goes OFF, the engine stops. -/
def State.emptyTable (s : State) : State :=
  let t := s.setAlarms { s.alarms with entries := [], fixed := FixedEntry.idle s.alarms.fixed.severity }
  t.setOffice (Office.stop { t.office.setRelays [] with aco := none, required := none })

/-- R138, R149: the Alarm Table and the Office Alarm Unit restart. -/
def State.restartTable (s : State) : State := s.emptyTable.refill false

/-! ## READ ALARMS (R137, R169) -/

/-- R169: an entry's thirteen bytes. -/
def entryFields (index : Nat) (a : Option Alarm) (sev : Severity) (active acked : Bool) (sa : Option Bool)
    (raised : Word32) (cleared : Option Word32) (count : Nat) : List Field :=
  [.qty 1 index, .qty 1 (typeCode a), .qty 1 (Object.byte (alarmObject a)),
   .qty 1 (32 * Severity.code sev + 16 * active.toNat + 8 * acked.toNat + saCode sa),
   .qty 4 raised.toNat, .qty 4 ((cleared.map (·.toNat)).getD 0), .qty 1 count]

/-- R137: the entries from an index onward, each with its index; the fixed entry is index 0 unless IDLE. -/
def AlarmTable.listing (t : AlarmTable) : List (Nat × List Field) :=
  (if t.fixed.state = .idle then []
   else [(0, entryFields 0 none t.fixed.severity (t.fixed.state == .active) t.fixed.acked none t.fixed.raisedAt
     t.fixed.clearedAt t.fixed.count)]) ++
  t.entries.zipIdx.map fun x =>
    (x.2 + 1, entryFields (x.2 + 1) (some x.1.alarm) x.1.severity x.1.active x.1.acked x.1.sa x.1.raisedAt x.1.clearedAt x.1.count)

/-- R137: the state of the fixed entry: 0 IDLE, 1 ACTIVE, 2 CLEARED. -/
def FixedState.code : FixedState → Nat
  | .idle => 0
  | .active => 1
  | .cleared => 2

/-- R137: READ ALARMS. -/
def cmdReadAlarms (start : Byte) : Command := fun s =>
  if start.toNat ≤ 48 then
    results ([.qty 1 s.alarms.entries.length, .qty 1 (FixedState.code s.alarms.fixed.state)] ++
      (((s.alarms.listing.filter fun x => decide (start.toNat ≤ x.1)).take 4).flatMap (·.2))) s
  else refuseWith .outOfRange s

/-! ## The meanings -/

/-- ALARM_CONDITION_RAISE (R125 to R128, R133, R134). -/
def execAlarmConditionRaise (x : Alarm) (s : State) : Host.Outcome State Fault Refusal := .next (s.raiseAlarm x)

/-- ALARM_CONDITION_CLEAR (R127). -/
def execAlarmConditionClear (x : Alarm) (s : State) : Host.Outcome State Fault Refusal := .next (s.clearAlarm x)

/-- COVERAGE_CHANGE (R131, R132). -/
def execCoverageChange (l : LineIx) (covered : Bool) (s : State) : Host.Outcome State Fault Refusal :=
  .next (s.coverageChange l covered)

end Sys2Proof.Machine
end

