-- ==== Sys2Proof/Machine/ClockController.lean ====
section
/-!
DEFINITION. Machine/ClockController.lean: the Clock Controller (Section 6): selection, changes of loop state, steering and
the holdover average, aging, quality codes, the steering output, and the commands CLOCK REQUEST and READ CLOCK.
-/
namespace Sys2Proof.Machine

def State.setClock (s : State) (k : Clock) : State := { s with clock := k }

/-! ## Reports (R116, R117, R119) -/

/-- R119 step 2: each clock condition that has changed since it was last handed over is handed to the Alarm Table, in the order
of the type codes (log entry 35). -/
def State.handClockConds (s : State) : State :=
  let old := s.clock.handed
  let new := clockConds s.ref s.clock
  let t := s.setClock { s.clock with handed := new }
  let one (t : ShelfAlarm) (a b : Bool) (u : State) : State := if a = b then u else u.handAlarm (.shelf t) b
  one .steerLimit old.steerLimit new.steerLimit
    (one .holdoverAged old.aged new.aged
      (one .clockFreeRun old.freeRun new.freeRun
        (one .clockHoldover old.holdover new.holdover t)))

/-- R119: what counts as a change. -/
def Clock.reports (old new : Clock) : Bool :=
  old.loop != new.loop || old.selected != new.selected || old.ownQual != new.ownQual || old.aged != new.aged

/-- R119 step 1: the CLOCK_STATE event. -/
def State.issueClockState (s : State) : State :=
  s.issue (.clockState s.clock.loop s.clock.aged s.clock.steerLimit s.clock.selected s.clock.ownQual s.clock.feeding s.clock.steer)

/-- R116, R117: the own quality and the feeding line are formed again. -/
def Clock.formed (ref : RefMonitor) (k : Clock) : Clock :=
  { k with ownQual := ownQuality ref k, feeding := feedingLine ref k }

/-- R119: the Clock Controller takes the state `k`, forms its quality codes and hands its changes on. -/
def State.reportClock (k : Clock) (s : State) : State :=
  let new := k.formed s.ref
  let t := s.setClock new
  (if s.clock.reports new then t.issueClockState else t).handClockConds

/-! ## Selection (R105, R106, R109, R110) -/

/-- R109, R110: the history holds at least 2^a updates. -/
def Clock.enoughHistory (k : Clock) : Bool := 2 ^ k.settings.averageShift ≤ k.history

/-- R109, R110: the average as a steering word, ties away from zero. -/
def Clock.averageWord (k : Clock) : Int := roundDiv k.average 256

/-- R109: the selection changes to a candidate. -/
def Clock.toCandidate (k : Clock) (c : CandIx) : Clock :=
  { k with
    steer := if k.loop = .locked ∧ k.enoughHistory then k.averageWord else k.steer
    loop := .acquiring
    selected := some c
    lockRun := 0
    ageCount := if k.loop = .holdover then 0 else k.ageCount
    aged := if k.loop = .holdover then false else k.aged }

/-- R110: the selection changes to none. -/
def Clock.toNone (k : Clock) : Clock :=
  if k.enoughHistory then
    { k with selected := none, loop := .holdover, steer := k.averageWord, ageCount := 0, aged := false }
  else { k with selected := none, loop := .freeRun, steer := k.settings.freeRun }

/-- R116: in LOCKED the last locked quality follows the selected candidate's effective quality. -/
def Clock.recordLocked (ref : RefMonitor) (k : Clock) : Clock :=
  match k.loop, k.selected with
  | .locked, some c => { k with lastLocked := (ref.cands.get c).effQual }
  | _, _ => k

/-- R106, R109, R110: the loop after the selection `sel`. A change of the selected candidate's effective quality in LOCKED that moves
the selection away is not recorded as last locked quality (R116; log entry 41). -/
def Clock.select (ref : RefMonitor) (k : Clock) (sel : Option CandIx) : Clock :=
  if sel = k.selected then k.recordLocked ref
  else match sel with
    | some c => k.toCandidate c
    | none => k.toNone

/-- R106: the selection is made again. -/
def State.reselect (s : State) : State := s.reportClock (s.clock.select s.ref (selection s.ref s.clock))

/-- R117: the feeding line is formed again at a change of the selected candidate's resolved line. -/
def State.formFeeding (s : State) : State := s.setClock { s.clock with feeding := feedingLine s.ref s.clock }

/-! ## Steering (R111 to R114) -/

/-- R112: the steering update of a gate with offset Q. -/
def Clock.steered (k : Clock) (q : Int) : Clock :=
  let sum := k.steer + roundDiv q (2 ^ k.settings.gainShift)
  { k with steer := clampInt Config.fullScale sum, steerLimit := sum != clampInt Config.fullScale sum }

/-- R113, R114: the holdover average moves toward 256 times S, and the history count rises. -/
def Clock.averaged (k : Clock) : Clock :=
  { k with
    average := clampInt Config.holdoverScale
      (k.average + floorDiv (256 * k.steer - k.average) (2 ^ k.settings.averageShift))
    history := min 65535 (k.history + 1) }

/-- R111: a Q offered for the selected candidate while the loop is in ACQUIRING or LOCKED. -/
def Clock.applyQ (ref : RefMonitor) (k : Clock) (q : Int) : Clock :=
  let k' := k.steered q
  match k.loop with
  | .acquiring =>
    if q.natAbs ≤ k.settings.lockThreshold then
      (if k.lockRun + 1 < 4 then { k' with lockRun := k.lockRun + 1 }
       else Clock.recordLocked ref { k' with loop := .locked, lockRun := 0, history := 0 })
    else { k' with lockRun := 0 }
  | .locked =>
    if k.settings.unlockThreshold < q.natAbs then { k' with loop := .acquiring, lockRun := 0 } else k'.averaged
  | _ => k

/-- R111: the Q of a completed gate is offered. -/
def State.offerQ (c : CandIx) (q : Int) (s : State) : State :=
  if s.clock.selected = some c ∧ (s.clock.loop = .acquiring ∨ s.clock.loop = .locked) then
    s.reportClock (s.clock.applyQ s.ref q)
  else s

/-! ## Holdover aging (R115) and the steering output (R118) -/

/-- R115: the age limit is reached in HOLDOVER: HOLDOVER_AGED is set, if it is clear. -/
def State.ageLimit (s : State) : State :=
  if s.clock.loop = .holdover ∧ s.clock.aged = false then s.reportClock { s.clock with aged := true } else s

/-- R115: the holdover age count at a 1 s tick, compared with the limit in seconds. -/
def State.tickAge (s : State) : State :=
  if s.clock.loop = .holdover then
    let t := s.setClock { s.clock with ageCount := min Config.ageCap (s.clock.ageCount + 1) }
    if t.clock.settings.ageHours * 3600 ≤ t.clock.ageCount then t.ageLimit else t
  else s

/-! ## CLOCK REQUEST (R107) -/

/-- R107: the request a CLOCK REQUEST names; the candidate is ignored unless the kind is FORCE_REF. -/
def readClockReq (kind cand : Byte) : Option ClockReq :=
  match kind.toNat with
  | 0 => some .none
  | 1 => (readCandIx cand).map ClockReq.forceRef
  | 2 => some .forceHoldover
  | _ => none

/-- R107: the issuer of a displaced request is notified, unless it is the port of the new request. That port is sent as
the new issuer also where the new request is NONE, which has no issuer (log entry 43). -/
def State.notifyClock (p : LinkPort) (new : ClockReq) (s : State) : State :=
  match s.clock.slot, s.clock.issuer with
  | .none, _ => s
  | _, none => s
  | old, some i => if i = p then s else s.issue (.clockPreempted i old new p)

/-- R107: a request replaces the one in the slot, and the selection is made again. -/
def State.placeClockReq (p : LinkPort) (r : ClockReq) (s : State) : State :=
  let t := s.notifyClock p r
  State.reselect (t.setClock { t.clock with slot := r, issuer := if r = .none then none else some p })

/-- R107: CLOCK REQUEST. -/
def cmdClockRequest (p : LinkPort) (kind cand : Byte) : Command := fun s =>
  match readClockReq kind cand with
  | none => refuseWith .outOfRange s
  | some r => taken false (if r = .none ∧ s.clock.slot = .none then s else s.placeClockReq p r)

/-! ## READ CLOCK (R120, R169) -/

/-- R120: what READ CLOCK returns of the six candidates, one after another. -/
def clockCandFields (s : State) : List Field :=
  allCands.flatMap fun c =>
    let x := s.ref.cands.get c
    [.bit x.eligible, .code x.effQual, .qty 1 x.priority, .bit x.lockout, .qty 1 (selectionPlace s.ref c)]

/-- R107, R120: the issuer of the slot, Port A or Port B, and so one bit (R169); free while the slot holds NONE. -/
def issuerField (s : State) : Field :=
  match s.clock.issuer with
  | some p => .bit (p == .b)
  | none => .bit (s.flip .noIssuer)

/-- R120: the results of READ CLOCK. -/
def clockFields (s : State) : List Field :=
  let k := s.clock
  List.flatten [
    [.code (LoopState.code k.loop), .code (candOrZero k.selected), .qty 1 (lineOrFF k.feeding), .qty 1 k.lockRun,
       .qty 2 (signed16 k.steer), .qty 3 (signed32 k.average), .qty 2 k.history, .qty 2 (2 ^ k.settings.averageShift),
       .qty 3 k.ageCount, .bit k.aged, .bit k.steerLimit,
       .code k.ownQual, .code k.lastLocked, .code 15, .code k.ownQual,
       .code (ClockReq.code k.slot), .code (candOrZero (ClockReq.cand k.slot)), issuerField s],
    clockCandFields s,
    [.qty 1 k.settings.gainShift, .qty 1 k.settings.averageShift, .qty 2 k.settings.lockThreshold,
       .qty 2 k.settings.unlockThreshold, .qty 2 (signed16 k.settings.freeRun), .bit (!k.settings.positive),
       .code k.settings.shelfQuality, .code k.settings.holdoverQuality, .bit k.settings.revertive,
       .qty 1 k.settings.ageHours]]

/-- R120: READ CLOCK. -/
def cmdReadClock : Command := fun s => results (clockFields s) s

/-! ## The meanings -/

/-- CANDIDATE_OFFER (R106): the selection is made again from the eligibility and quality the Reference Monitor holds. -/
def execCandidateOffer (_c : CandIx) (s : State) : Host.Outcome State Fault Refusal := .next s.reselect

/-- RESOLVED_LINE_OFFER (R117): the resolved line of the selected candidate marks the feeding line. -/
def execResolvedLineOffer (c : CandIx) (s : State) : Host.Outcome State Fault Refusal :=
  .next (if s.clock.selected = some c then s.formFeeding else s)

/-- Q_OFFER (R111 to R114). -/
def execQOffer (c : CandIx) (q : Int) (s : State) : Host.Outcome State Fault Refusal := .next (s.offerQ c q)

/-- HOLDOVER_AGE_LIMIT (R115). -/
def execHoldoverAgeLimit (s : State) : Host.Outcome State Fault Refusal := .next s.ageLimit

/-- STEER_FRAME_START (R118): the frame takes its high count from S and the pull sign. -/
def execSteerFrameStart (s : State) : Host.Outcome State Fault Refusal :=
  .next (s.setClock { s.clock with highCount := highCountFor s.clock.settings.positive s.clock.steer })

end Sys2Proof.Machine
end

