-- ==== Sys2Proof/Machine/ReferenceMonitor.lean ====
section
/-!
DEFINITION. Machine/ReferenceMonitor.lean: the Reference Monitor (Section 5): source resolution, the five reasons, the
activity monitor, the gate, qualification, effective quality and eligibility, and the commands CANDIDATE SETUP, CLOCK SETUP
(with the Clock Controller's settings of Section 6), CANDIDATE LOCKOUT and READ CANDIDATE.
-/
namespace Sys2Proof.Machine

/-! ## Qualification and hand-overs (R97, R99, R100) -/

/-- R97: the state and the good-gate run follow the reason set. -/
def Candidate.withReasons (r : Reasons) (x : Candidate) : Candidate :=
  if r.isEmpty then
    (if x.reasons.isEmpty then x else { x with reasons := r, state := .qualifying, goodRun := 0 })
  else { x with reasons := r, state := .disqualified, goodRun := 0 }

/-- R100: the effective quality and the eligibility of a candidate are formed again. -/
def State.formElig (c : CandIx) (s : State) : State :=
  s.modCand c fun x =>
    { x with effQual := effectiveQuality s.lines x
             eligible := eligibleWith s.clock.settings.shelfQuality (effectiveQuality s.lines x) x }

/-- R99: the change of a candidate that was `old` is handed on: event, Alarm Table, Clock Controller. -/
def State.handOn (c : CandIx) (old : Candidate) (s : State) : State :=
  let x := s.cand c
  if x.state = old.state ∧ x.reasons = old.reasons ∧ x.resolved = old.resolved then s
  else
    let t := s.issue (.refState c x.state x.reasons x.resolved x.lastQ)
    let u := if (x.state == .disqualified) = (old.state == .disqualified) then t
      else t.handAlarm (.refDisqualified c) (x.state == .disqualified)
    State.reselect (u.formElig c)

/-- A change of a candidate, handed on at the moment it is made (R99). -/
def State.changeCand (c : CandIx) (f : Candidate → Candidate) (s : State) : State :=
  State.handOn c (s.cand c) (s.modCand c f)

/-! ## Resolution (R89, R90) -/

/-- R90: the resolved line changes to `r`. -/
def Candidate.moveTo (lines : Vector Line 16) (cb : Cabling) (r : Option LineIx) (x : Candidate) : Candidate :=
  { Candidate.withReasons
      { x.reasons with activity := x.resolved.isSome && r.isSome && x.reasons.activity
                       source := sourceReason x.source r
                       lineDefect := lineDefectReason lines r
                       cabling := cablingReason cb r } x with
    resolved := r
    gate := false
    window := r.isSome }

/-- R89, R90: a candidate's source is resolved again. A candidate not in use has no resolved line (log entry 36). -/
def State.resolveCand (c : CandIx) (s : State) : State :=
  let x := s.cand c
  let r := resolveSource s.prot x.source
  if x.inUse = false ∨ r = x.resolved then s else s.changeCand c (Candidate.moveTo s.lines s.cabling r)

/-- The candidate's source is a channel of the group. -/
def Candidate.follows (g : GroupIx) (x : Candidate) : Bool :=
  match x.source with
  | .group g' _ => g' == g
  | _ => false

/-- R66, R89: a change of a group's selected channel, admin state or membership is offered. -/
def State.offerGroup (g : GroupIx) (s : State) : State :=
  forEach allCands (fun c t => if (t.cand c).follows g then t.resolveCand c else t) s

/-! ## Reasons from the line and its port (R91) -/

/-- R91: LINE_DEFECT follows the resolved line. -/
def State.offerDefect (l : LineIx) (s : State) : State :=
  forEach allCands (fun c t =>
    if (t.cand c).resolved = some l then
      t.changeCand c fun x => x.withReasons { x.reasons with lineDefect := (t.line l).defect }
    else t) s

/-- R91: CABLING follows the state of the resolved line's port. -/
def State.offerCabling (l : LineIx) (s : State) : State :=
  forEach allCands (fun c t =>
    if (t.cand c).resolved = some l then
      t.changeCand c fun x => x.withReasons { x.reasons with cabling := (t.port l).state != .agreed }
    else t) s

/-- R100: a received quality code that differs from the last is handed over; the candidates on the line are formed again,
and then the Clock Controller makes its selection again, once (R106; log entry 37). -/
def State.offerQuality (l : LineIx) (s : State) : State :=
  if allCands.any fun c => (s.cand c).resolved == some l then
    State.reselect (forEach allCands (fun c t => if (t.cand c).resolved = some l then t.formElig c else t) s)
  else s

/-! ## Activity and gates (R92 to R95, R98) -/

/-- R92: the activity window runs out. -/
def State.activityExpiry (c : CandIx) (s : State) : State :=
  if (s.cand c).window then
    s.changeCand c fun x => { x.withReasons { x.reasons with activity := true } with window := false, gate := false }
  else s

/-- R92, R93: a rising edge removes ACTIVITY and restarts the window; a gate begins where none is in flight. -/
def State.startEdge (c : CandIx) (s : State) : State :=
  if (s.cand c).hasInput then
    s.changeCand c fun x => { x.withReasons { x.reasons with activity := false } with window := true, gate := true }
  else s

/-- R98 case 2, steps 2 and 3: the good-gate run rises, and a run at the qualify count qualifies. -/
def Candidate.goodGate (count : Nat) (x : Candidate) : Candidate :=
  if x.reasons.isEmpty then
    { x with goodRun := min 15 (x.goodRun + 1)
             state := if x.state = .qualifying ∧ count ≤ min 15 (x.goodRun + 1) then .qualified else x.state }
  else x

/-- R98: the offset of a completed gate is applied to qualification. -/
def State.judgeGate (c : CandIx) (q : Int) (s : State) : State :=
  if s.ref.disqualifyLimit < q.natAbs then
    s.changeCand c fun x => x.withReasons { x.reasons with offset := true }
  else if q.natAbs ≤ s.ref.qualifyLimit then
    State.changeCand c (Candidate.goodGate s.ref.qualifyCount)
      (s.changeCand c fun x => x.withReasons { x.reasons with offset := false })
  else s.modCand c fun x => if x.reasons.isEmpty then { x with goodRun := 0 } else x

/-- R93, R95, R98, R99: a gate completes with its count; the next gate begins at the same edge. -/
def State.completeGate (c : CandIx) (count : Nat) (s : State) : State :=
  let q := gateOffset s.ref.gateExp count
  State.offerQ c q (State.judgeGate c q (s.modCand c fun x => { x with lastQ := q, gate := true, window := true }))

/-! ## CANDIDATE SETUP (R87, R96) -/

/-- R87, 5.2: the source a CANDIDATE SETUP names, if the candidate may take it. -/
def readSource (c : CandIx) (kind lineOrGroup channel : Byte) : Option CandSource :=
  match kind.toNat with
  | 0 => if isStation c then none else some .none
  | 1 => if c = 0 then some .station else none
  | 2 => if c = 1 then some .station else none
  | 3 => if isStation c then none else (readLineIx lineOrGroup).map .line
  | 4 =>
    if isStation c then none
    else match readGroupIx lineOrGroup, readChanIx channel with
      | some g, some k => some (.group g k)
      | _, _ => none
  | _ => none

/-- R87, R96: a reconfiguration: the measurement is formed anew from the candidate's settings and the present line, cabling
and group states. A candidate not in use has no resolved line (log entry 36). -/
def Candidate.reconfigured (s : State) (x : Candidate) : Candidate :=
  let r := resolveSource s.prot x.source
  let reasons : Reasons :=
    { activity := false, offset := false, lineDefect := lineDefectReason s.lines r, cabling := cablingReason s.cabling r,
      source := sourceReason x.source r }
  if x.inUse then
    { x with resolved := r, reasons := reasons, state := if reasons.isEmpty then .qualifying else .disqualified,
             goodRun := 0, gate := false, window := x.source == .station || r.isSome }
  else
    { x with resolved := none, reasons := Reasons.empty, state := .unused, goodRun := 0, gate := false, window := false }

/-- R87: the setup of a candidate is written, and the measurement formed anew where the enabled flag or the source
changes. -/
def State.setupCand (c : CandIx) (enabled : Bool) (source : CandSource) (priority quality : Nat) (s : State) : State :=
  let old := s.cand c
  let t := s.modCand c fun x => { x with priority := priority, defQual := quality }
  let u := if enabled = old.enabled ∧ source = old.source then t
    else t.changeCand c fun x => Candidate.reconfigured t { x with enabled := enabled, source := source }
  State.reselect (u.formElig c)

/-- R87: CANDIDATE SETUP. -/
def cmdCandidateSetup (x : CandidateSetupParams) : Command := fun s =>
  match readCandIx x.cand, readFlag x.enabled with
  | some c, some enabled =>
    (match readSource c x.sourceKind x.lineOrGroup x.channel with
    | some source =>
      let priority := clamp 1 8 x.priority.toNat
      let quality := clamp 1 14 x.quality.toNat
      taken (priority != x.priority.toNat || quality != x.quality.toNat) (s.setupCand c enabled source priority quality)
    | none => refuseWith .outOfRange s)
  | _, _ => refuseWith .outOfRange s

/-! ## CLOCK SETUP (R88, R104) -/

/-- R88: the shared measurement settings of a CLOCK SETUP. The disqualify limit is clamped after the qualify limit. -/
def RefMonitor.configure (x : ClockSetupParams) (r : RefMonitor) : RefMonitor :=
  let qualify := clamp 1 32767 x.qualifyLimit.toNat
  let g := clamp 0 3 x.gateExp.toNat
  { cands := if g = r.gateExp then r.cands else r.cands.map fun c => { c with gate := false }
    gateExp := g
    qualifyLimit := qualify
    disqualifyLimit := clamp qualify 32767 x.disqualifyLimit.toNat
    qualifyCount := clamp 1 15 x.qualifyCount.toNat }

/-- R104: the Clock Controller's settings of a CLOCK SETUP. The unlock threshold is clamped after the lock threshold, and
the holdover quality after the shelf quality. -/
def ClockSettings.read (x : ClockSetupParams) (negative revertive : Bool) : ClockSettings :=
  let lock := clamp 1 32767 x.lockThreshold.toNat
  let shelf := clamp 1 14 x.shelfQuality.toNat
  { gainShift := clamp 0 7 x.gainShift.toNat
    averageShift := clamp 2 10 x.averageShift.toNat
    lockThreshold := lock
    unlockThreshold := clamp lock 32767 x.unlockThreshold.toNat
    freeRun := clampInt Config.fullScale x.freeRun.toInt
    positive := !negative
    shelfQuality := shelf
    holdoverQuality := clamp 1 shelf x.holdoverQuality.toNat
    revertive := revertive
    ageHours := clamp 1 72 x.ageLimit.toNat }

/-- R88, R104: a value of a CLOCK SETUP is clamped. -/
def clockSetupClamped (x : ClockSetupParams) (r : RefMonitor) (k : ClockSettings) : Bool :=
  r.gateExp != x.gateExp.toNat || r.qualifyLimit != x.qualifyLimit.toNat || r.disqualifyLimit != x.disqualifyLimit.toNat ||
  r.qualifyCount != x.qualifyCount.toNat || k.gainShift != x.gainShift.toNat || k.averageShift != x.averageShift.toNat ||
  k.lockThreshold != x.lockThreshold.toNat || k.unlockThreshold != x.unlockThreshold.toNat ||
  k.freeRun != x.freeRun.toInt || k.shelfQuality != x.shelfQuality.toNat ||
  k.holdoverQuality != x.holdoverQuality.toNat || k.ageHours != x.ageLimit.toNat

/-- R88, R104: the settings take effect: S follows the free-run word in FREE_RUN, every eligibility is formed again, and
the selection is made again. -/
def State.setupClock (r : RefMonitor) (k : ClockSettings) (s : State) : State :=
  let t : State :=
    { s with ref := r
             clock := { s.clock with settings := k
                                     steer := if s.clock.loop = .freeRun then k.freeRun else s.clock.steer } }
  State.reselect (forEach allCands State.formElig t)

/-- R88, R104: CLOCK SETUP. -/
def cmdClockSetup (x : ClockSetupParams) : Command := fun s =>
  match readFlag x.pullSign, readFlag x.revertive with
  | some negative, some revertive =>
    let r := s.ref.configure x
    let k := ClockSettings.read x negative revertive
    taken (clockSetupClamped x r k) (s.setupClock r k)
  | _, _ => refuseWith .outOfRange s

/-! ## CANDIDATE LOCKOUT (R108) -/

/-- R108: the lockout flag is set or cleared. -/
def State.setLockout (c : CandIx) (on : Bool) (s : State) : State :=
  if (s.cand c).lockout = on then s
  else State.reselect (State.formElig c (s.modCand c fun x => { x with lockout := on }))

/-- R108: CANDIDATE LOCKOUT. -/
def cmdCandidateLockout (cand kind : Byte) : Command := fun s =>
  match readCandIx cand, readFlag kind with
  | some c, some on => taken false (s.setLockout c on)
  | _, _ => refuseWith .outOfRange s

/-! ## READ CANDIDATE (R101, R169) -/

/-- The kind of a source, its line or group and its channel, coded as in CANDIDATE SETUP. -/
def CandSource.fields (c : CandIx) : CandSource → List Field
  | .none => [.code 0, .qty 1 0xFF, .code 0]
  | .station => [.code (c.val + 1), .qty 1 0xFF, .code 0]
  | .line l => [.code 3, .qty 1 l.val, .code 0]
  | .group g k => [.code 4, .qty 1 g.val, .code (k.val + 1)]

/-- R101: the periods and cycles counted so far by a gate are free values (log entry 4). -/
def gateFields (s : State) (x : Candidate) : List Field :=
  [.bit x.gate,
   .qty 3 (if x.gate then s.draw .gatePeriods % (64000 * 2 ^ s.ref.gateExp) else s.draw .gatePeriods % 512000),
   .qty 4 (s.draw .gateCount % 2 ^ 32)]

/-- R101: the received quality code of the resolved line, 0 when none. -/
def receivedQuality (s : State) (x : Candidate) : Nat :=
  match x.resolved with
  | some l => (s.line l).lastGood.quality.toNat
  | none => 0

/-- R101: the results of READ CANDIDATE. The reasons stand in the order of 5.2, not of 5.4 (log entry 42). -/
def candFields (s : State) (c : CandIx) : List Field :=
  let x := s.cand c
  List.flatten [
    [.bit x.enabled],
    x.source.fields c,
    [.qty 1 x.priority, .code x.defQual, .bit x.lockout, .qty 1 (lineOrFF x.resolved), .code (CandState.code x.state),
       .bit x.reasons.activity, .bit x.reasons.offset, .bit x.reasons.lineDefect, .bit x.reasons.cabling, .bit x.reasons.source,
       .qty 1 x.goodRun, .qty 2 (signed16 x.lastQ)],
    gateFields s x,
    [.code (receivedQuality s x), .code x.effQual, .bit x.eligible, .qty 1 s.ref.gateExp, .qty 2 s.ref.qualifyLimit,
       .qty 2 s.ref.disqualifyLimit, .qty 1 s.ref.qualifyCount]]

/-- R101: READ CANDIDATE. -/
def cmdReadCandidate (cand : Byte) : Command := fun s =>
  match readCandIx cand with
  | some c => results (candFields s c) s
  | none => refuseWith .outOfRange s

/-! ## The meanings -/

/-- SELECTION_OFFER (R66, R89, R90). -/
def execSelectionOffer (g : GroupIx) (s : State) : Host.Outcome State Fault Refusal := .next (s.offerGroup g)

/-- LINE_DEFECT_CHANGE (R91): the Line Monitor's values are read where they stand. -/
def execLineDefectChange (l : LineIx) (s : State) : Host.Outcome State Fault Refusal := .next (s.offerDefect l)

/-- CABLING_STATE_OFFER (R91): the port's state is read where it stands. -/
def execCablingStateOffer (l : LineIx) (s : State) : Host.Outcome State Fault Refusal := .next (s.offerCabling l)

/-- ACTIVITY_WINDOW_EXPIRY (R92): a window that is not running cannot run out. -/
def execActivityWindowExpiry (c : CandIx) (s : State) : Host.Outcome State Fault Refusal := .next (s.activityExpiry c)

/-- GATE_START_EDGE (R92, R93). -/
def execGateStartEdge (c : CandIx) (s : State) : Host.Outcome State Fault Refusal := .next (s.startEdge c)

/-- GATE_COMPLETE (R93, R95, R98, R99). After a discard the edge belongs to no gate and begins the next one (R94). -/
def execGateComplete (c : CandIx) (count : Word32) (s : State) : Host.Outcome State Fault Refusal :=
  .next (if (s.cand c).gate then s.completeGate c count.toNat else s.startEdge c)

end Sys2Proof.Machine
end

