-- ==== Sys2Proof/Machine/Protection.lean ====
section
/-!
DEFINITION. Machine/Protection.lean: the Protection Controller's decisions (Sections 3 and 4): coverage, the forming of the
effective request, resolution of the request list, automatic requests, waits, TRIAL outcomes and the far-end tracker.
-/
namespace Sys2Proof.Machine

/-! ## Coverage and outbound fields (R65, R66, R79) -/

/-- R66: the coverage of one line is formed again; a change is handed to the Alarm Table. -/
def State.formLineCoverage (l : LineIx) (s : State) : State :=
  let c := s.prot.coverage l
  if c = s.prot.covered.get l then s
  else State.coverageChange l c { s with prot := { s.prot with covered := s.prot.covered.set l.val c } }

/-- R66: coverage is formed again. -/
def State.formCoverage (s : State) : State := forEach allLines State.formLineCoverage s

/-- R79, R50: the outbound fields of a group's member lines. -/
def State.commandMembers (x : Group) (cmd : LineIx → LineCmd) (s : State) : State :=
  { s with prot := { s.prot with out := Vector.ofFn fun l => if x.member l then cmd l else s.prot.out.get l } }

/-! ## Changes of a request list (R51) -/

/-- R51: an AUTOMATIC entry. -/
def ReqEntry.auto (c : ReqClass) (chan : Nat) : ReqEntry := ⟨c, chan, .automatic, none⟩

/-- The entry is RESTORE_WAIT or HOLD_SWITCHED. -/
def ReqEntry.keeps (e : ReqEntry) : Bool := e.cls == .restoreWait || e.cls == .holdSwitched

/-- The entry is the signal entry of a channel. -/
def ReqEntry.signalOf (k : ChanIx) (e : ReqEntry) : Bool :=
  (e.cls == .signalFail || e.cls == .signalDegrade) && e.chan == k.val + 1

/-- The list takes a new value; the restore wait stops when RESTORE_WAIT has left (R64), and the trial wait when the TRIAL
has left (R82). -/
def Group.withList (es : List ReqEntry) (x : Group) : Group :=
  { x with list := es
           restoreWait := if es.any (·.cls == .restoreWait) then x.restoreWait else none
           trialWait := if (trialOf es).isSome then x.trialWait else none }

/-- Entries leave the list. -/
def Group.drop (p : ReqEntry → Bool) (x : Group) : Group := x.withList (x.list.filter fun e => !p e)

/-- An entry enters at the end of the list; RESTORE_WAIT starts the restore wait (R63), an external TRIAL the trial wait
(R82). -/
def Group.enter (e : ReqEntry) (x : Group) : Group :=
  { x with list := x.list ++ [e]
           restoreWait := if e.cls = .restoreWait then some 0 else x.restoreWait
           trialWait := if e.external ∧ e.cls = .trial then some 0 else x.trialWait }

/-- R52: the entry that wins a group's list. -/
def State.winningEntry (s : State) (x : Group) : Option ReqEntry := pickWinner (s.line x.prot).rawDegrade x.list

/-! ## Forming the effective request (R75 to R81) -/

/-- R75, R76 to R78, R80: effective request, own-request record, bridge, selection and signal state. -/
def Group.formed (w : Winner) (x : Group) : Group :=
  let e := x.effective w
  let sel := x.selectFor e
  { x with
    eff := e
    own := if x.operatesBidir then
        (if e.isLocal && !x.own.contains (e.cls, e.chan) then x.own ++ [(e.cls, e.chan)] else x.own)
      else []
    bridged := x.bridgeFor e
    selected := sel
    signal := x.signalFor e sel }

/-- R80: IDLE, LOCKOUT and PROT_FAIL, the classes of channel 0. -/
def ReqClass.ofNone (c : ReqClass) : Bool := c == .idle || c == .lockout || c == .protFail

/-- R80, R81: a running agreement wait is kept at a change of the effective request: its class and channel are the same, or it
leaves IDLE, LOCKOUT or PROT_FAIL for one of the others (log entry 38). -/
def EffRequest.keepsWait (old new : EffRequest) : Bool :=
  (old.cls == new.cls && old.chan == new.chan) || (old.cls.ofNone && new.cls.ofNone)

/-- R81: the agreement wait at a forming, where the effective request was `old`. -/
def Group.waitFormed (old : EffRequest) (x : Group) : Group :=
  if x.agreementCond then
    (if x.protoFault then { x with agreeWait := none }
     else { x with agreeWait :=
              match x.agreeWait with
              | none => some 0
              | some n => if old.keepsWait x.eff then some n else some 0 })
  else { x with agreeWait := none, protoFault := false }

/-- R78: the PROT_SWITCHED event of a change of the selected channel. -/
def State.issueSwitched (g : GroupIx) (old new : Group) (s : State) : State :=
  if new.selected = old.selected then s
  else s.issue (.protSwitched g new.selected old.selected new.bridged new.eff.cls new.eff.chan)

/-- R81: a change of PROTOCOL_FAULT is handed to the Alarm Table. -/
def State.handFault (g : GroupIx) (old new : Group) (s : State) : State :=
  if new.protoFault = old.protoFault then s else s.handAlarm (.group .protocolFault g) new.protoFault

/-- R76: the effective request of an in-service group `x` is formed with the local winner `w`, and what follows is applied
in the order of R76. -/
def State.applyForming (g : GroupIx) (x : Group) (w : Winner) (s : State) : State :=
  let y := x.formed w
  let z := y.waitFormed x.eff
  let t := State.handFault g y z (State.setGroup (State.issueSwitched g x y (s.setGroup g (some y))) g (some z))
  let u := (t.commandMembers z z.cmdFor).formCoverage
  if y.selected = x.selected then u else u.offerGroup g

/-- R76: the effective request is formed again, with the winner of the list as it stands. -/
def State.formEffective (g : GroupIx) (s : State) : State :=
  match s.group g with
  | some x => if x.inService then s.applyForming g x (winnerOf (s.winningEntry x)) else s
  | none => s

/-! ## Resolution (R53) -/

/-- R53 step 2: the automatic classes that end an external MANUAL or TRIAL. -/
def ReqClass.preempts : ReqClass → Bool
  | .protFail => true
  | .signalFail => true
  | .signalDegrade => true
  | _ => false

/-- An external MANUAL or TRIAL. -/
def ReqEntry.weakExternal (e : ReqEntry) : Bool := e.external && (e.cls == .manual || e.cls == .trial)

/-- R56: the REQUEST_PREEMPTED notice of a removed external entry. -/
def State.notifyPreempted (g : GroupIx) (removed : ReqEntry) (byCls : ReqClass) (bySource : Option ReqSource) (s : State) : State :=
  match removed.issuer with
  | some p => s.issue (.requestPreempted g p removed.cls removed.chan byCls bySource)
  | none => s

/-- R53 steps 2 and 3: what resolution removes from the list when `w` has won. -/
def Group.yield (w : Winner) (x : Group) : Group :=
  let y := if w.cls.preempts then x.drop ReqEntry.weakExternal else x
  if w.cls = .restoreWait ∨ w.cls = .holdSwitched then y else y.drop ReqEntry.keeps

/-- R53 step 2: the notice to the issuer of a removed MANUAL or TRIAL. -/
def State.notifyYield (g : GroupIx) (x : Group) (w : Winner) (s : State) : State :=
  match w.cls.preempts, x.list.find? (·.weakExternal) with
  | true, some e => s.notifyPreempted g e w.cls w.source
  | _, _ => s

/-- R53 step 4: the PROT_REQUEST event of a changed winner. -/
def State.issueWinner (g : GroupIx) (x : Group) (w : Winner) (s : State) : State :=
  if w = x.lastWinner then s else s.issue (.protRequest g w.cls w.chan w.source .none)

/-- R53: the list of an in-service group is resolved. -/
def State.resolve (g : GroupIx) (s : State) : State :=
  match s.group g with
  | some x =>
    if x.inService then
      let w := winnerOf (s.winningEntry x)
      let y := { x.yield w with lastWinner := w }
      State.applyForming g y w (State.issueWinner g x w (State.notifyYield g x w (s.setGroup g (some y))))
    else s
  | none => s

/-- The list changes, and is resolved. -/
def State.changeList (g : GroupIx) (f : Group → Group) (s : State) : State := (s.modGroup g f).resolve g

/-! ## TRIAL (R82) -/

/-- R82: the TRIAL ends with an outcome. -/
def State.endTrial (g : GroupIx) (e : ReqEntry) (outcome : TrialDetail) (s : State) : State :=
  State.changeList g (Group.drop fun x => x.external && x.cls == .trial)
    ((s.modGroup g fun x => { x with trialWait := none }).issue (.protRequest g .trial e.chan (some e.source) outcome))

/-- R82: the pass test. -/
def State.testTrial (g : GroupIx) (s : State) : State :=
  match s.group g with
  | some x =>
    (match trialOf x.list with
    | some e => if x.inService && x.trialPasses e then s.endTrial g e .pass else s
    | none => s)
  | none => s

/-- R82: the trial wait has reached the protocol timeout. -/
def Group.trialDue (x : Group) : Bool :=
  match x.trialWait with
  | some n => x.inService && decide (x.timeout * 10 ≤ n)
  | none => false

/-- R82: the trial wait, if it runs, expires, and the TRIAL fails. -/
def State.trialExpiry (g : GroupIx) (s : State) : State :=
  match s.group g with
  | some x =>
    (match trialOf x.list with
    | some e => if x.inService && x.trialWait.isSome then s.endTrial g e .fail else s
    | none => s)
  | none => s

/-! ## The agreement wait (R81) -/

/-- R81: the agreement wait has reached the protocol timeout. -/
def Group.agreeDue (x : Group) : Bool :=
  match x.agreeWait with
  | some n => x.inService && decide (x.timeout * 10 ≤ n)
  | none => false

/-- R81: the agreement wait, if it runs, expires. -/
def State.agreementExpiry (g : GroupIx) (s : State) : State :=
  match s.group g with
  | some x =>
    if x.inService && x.agreeWait.isSome then
      (if x.disregarded then (s.setGroup g (some { x with own := [], agreeWait := none })).formEffective g
       else State.handAlarm (.group .protocolFault g) true (s.setGroup g (some { x with agreeWait := none, protoFault := true })))
    else s
  | none => s

/-! ## Signal conditions and PROT_FAIL (R59 to R63) -/

/-- R63: what a revertive or non-revertive group enters to keep channel `k` on the protection line. -/
def Group.keeper (x : Group) (k : ChanIx) : ReqEntry :=
  ReqEntry.auto (if x.revertive then .restoreWait else .holdSwitched) (k.val + 1)

/-- R63: the signal entry of channel `k` is the winner, and `k` is selected. -/
def Group.keptBy (x : Group) (best : Option ReqEntry) (k : ChanIx) : Bool :=
  match best with
  | some e => e.signalOf k && x.selected == k.val + 1
  | none => false

/-- R60, R63: the condition of channel `k` has become NONE and its signal entry leaves. -/
def State.signalCleared (g : GroupIx) (k : ChanIx) (x : Group) (s : State) : State :=
  let kept := x.keptBy (s.winningEntry x) k
  s.changeList g fun y =>
    if kept then (y.drop (ReqEntry.signalOf k)).enter (x.keeper k) else y.drop (ReqEntry.signalOf k)

/-- R59, R60: channel `k`'s condition changes to `c`. -/
def State.setCondition (g : GroupIx) (k : ChanIx) (c : ChanCond) (x : Group) (s : State) : State :=
  let old := x.chans.get k
  let entered := x.list.any (ReqEntry.signalOf k)
  let put (hold : Option Nat) : State := s.setGroup g (some { x with chans := x.chans.set k.val ⟨c, hold⟩ })
  if c = old.cond then s
  else if c = .none then
    (if entered then (put none).signalCleared g k x else put none)
  else if old.cond = .none then put (some 0)
  else if entered then
    (put old.hold).changeList g fun y => (y.drop (ReqEntry.signalOf k)).enter (ReqEntry.auto c.cls (k.val + 1))
  else put old.hold

/-- R59: the hold-off of channel `k` has reached its end; a hold-off of 0 counts one record of the channel's line. -/
def Group.holdDue (x : Group) (k : ChanIx) : Bool :=
  match (x.chans.get k).hold with
  | some n => x.inService && decide (max 1 x.holdOff ≤ n)
  | none => false

/-- R59: the hold-off of channel `k`, if it runs, ends, and a signal entry enters. -/
def State.holdOffEnd (g : GroupIx) (k : ChanIx) (s : State) : State :=
  match s.group g with
  | some x =>
    if x.inService && (x.chans.get k).hold.isSome then
      let c := (x.chans.get k).cond
      let t := s.setGroup g (some { x with chans := x.chans.set k.val ⟨c, none⟩ })
      if c = .none then t
      else t.changeList g fun y =>
        (y.drop fun e => e.cls == .restoreWait && e.chan == k.val + 1).enter (ReqEntry.auto c.cls (k.val + 1))
    else s
  | none => s

/-- R62: the cause of PROT_FAIL. -/
def State.protFailCause (s : State) (x : Group) : Bool := (s.line x.prot).rawFail || x.crossed

/-- R62: the list with PROT_FAIL in it exactly while its cause is present. -/
def Group.withProtFail (cause : Bool) (x : Group) : Group :=
  let held := x.list.any (·.cls == .protFail)
  if cause = held then x
  else if cause then x.enter (ReqEntry.auto .protFail 0)
  else x.drop (·.cls == .protFail)

/-- R59, R62, R52: a change of a line's raw signal fail or raw degrade reaches the line's group. -/
def State.lineSummary (l : LineIx) (s : State) : State :=
  match s.prot.role l with
  | .none => s
  | .working g k =>
    (match s.group g with
    | some x => if x.inService then s.setCondition g k (s.line l).chanCond x else s
    | none => s)
  | .protection g =>
    (match s.group g with
    | some x => if x.inService then s.changeList g (Group.withProtFail (s.protFailCause x)) else s
    | none => s)

/-! ## The restore wait (R64) -/

/-- R64: the restore wait has reached the restore-wait time. -/
def Group.restoreDue (x : Group) : Bool :=
  match x.restoreWait with
  | some n => x.inService && decide (x.restoreTime ≤ n)
  | none => false

/-- R64: the restore wait, if it runs, expires. -/
def State.restoreExpiry (g : GroupIx) (s : State) : State :=
  match s.group g with
  | some x => if x.inService && x.restoreWait.isSome then s.changeList g (Group.drop (·.cls == .restoreWait)) else s
  | none => s

/-! ## Crossed groups and notices of moves (R46, R57, R58) -/

/-- R46, R62: a group's crossed flag takes its crossed condition. -/
def State.crossedChange (g : GroupIx) (s : State) : State :=
  match s.group g with
  | some x =>
    let c := crossedCond s.cabling x
    if c = x.crossed then s
    else
      let t := State.handAlarm (.group .groupCrossed g) c (s.setGroup g (some { x with crossed := c }))
      (if x.inService then t.changeList g (Group.withProtFail ((t.line x.prot).rawFail || c)) else t).formCoverage
  | none => s

/-- R34: the crossed test of every group. -/
def State.crossedTest (s : State) : State := forEach allGroups State.crossedChange s

/-- R57: the CABLING request of a member line. -/
def cablingRequest (x : Group) (l : LineIx) : ReqEntry :=
  match x.chanOf l with
  | some k => if x.prot = l then ⟨.lockout, 0, .cabling, some l⟩ else ⟨.force, k.val + 1, .cabling, some l⟩
  | none => ⟨.lockout, 0, .cabling, some l⟩

/-- The entry is the CABLING request of a line. -/
def ReqEntry.cablingOf (l : LineIx) (e : ReqEntry) : Bool := e.source == .cabling && e.line == some l

/-- R57: the notice "move opened". -/
def State.moveOpened (l : LineIx) (s : State) : State :=
  match s.prot.groupOf l with
  | some g =>
    (match s.group g with
    | some x =>
      if x.inService && !x.list.any (ReqEntry.cablingOf l) then s.changeList g (Group.enter (cablingRequest x l)) else s
    | none => s)
  | none => s

/-- R58: the notice "move closed". -/
def State.moveClosed (l : LineIx) (s : State) : State :=
  match s.prot.groupOf l with
  | some g =>
    (match s.group g with
    | some x =>
      if x.inService && x.list.any (ReqEntry.cablingOf l) then s.changeList g (Group.drop (ReqEntry.cablingOf l)) else s
    | none => s)
  | none => s

/-! ## The far-end tracker (R70 to R73, R75) -/

/-- R70: a word is counted, its record being good with PCW valid 1: correct parity, and a class of 0 or 7 to 15. -/
def countableWord (w : Word16) : Bool := oddParity w && (Pcw.cls w == 0 || decide (7 ≤ Pcw.cls w))

/-- R71: a counted word. -/
def Tracker.count (w : Word16) (t : Tracker) : Tracker :=
  if t.last = some w then { t with run := min 3 (t.run + 1) } else { t with last := some w, run := 1 }

/-- R71: a run of 3 gives a change of the accepted word. -/
def Tracker.accepts (w : Word16) (t : Tracker) : Bool := t.run == 3 && (t.accepted != w || !t.received)

/-- R72, R83: the tracker as it starts. -/
def Tracker.initial : Tracker := { last := none, run := 0, accepted := idleWord, received := false }

/-- R73: the mode mismatch flag an accepted word gives. -/
def Group.mismatchOf (w : Word16) (x : Group) : Bool :=
  Pcw.oneToN w != (x.arch == .oneToN) || Pcw.bidir w != x.bidir

/-- R75: the own-request record at a change of the accepted word. -/
def Group.renewOwn (x : Group) : Group :=
  { x with own := if x.inService && x.operatesBidir && x.eff.isLocal then [(x.eff.cls, x.eff.chan)] else [] }

/-- R73 to R76, R82: a change of the accepted word, already in the record `y`, is applied. -/
def State.acceptedChange (g : GroupIx) (y : Group) (s : State) : State :=
  let m := if y.tracker.received then y.mismatchOf y.tracker.accepted else y.mismatch
  let t := s.setGroup g (some (Group.renewOwn { y with mismatch := m }))
  let u := if m = y.mismatch then t else t.handAlarm (.group .modeMismatch g) m
  (u.formEffective g).testTrial g

/-- R70, R71: a good record with PCW valid 1 brings the word `w` on a protection line. -/
def State.receiveWord (g : GroupIx) (w : Word16) (s : State) : State :=
  match s.group g with
  | some x =>
    if countableWord w then
      let t := x.tracker.count w
      if t.accepts w then s.acceptedChange g { x with tracker := { t with accepted := w, received := true } }
      else s.setGroup g (some { x with tracker := t })
    else s
  | none => s

/-- R72: LOL or LFA has become present on the protection line. -/
def State.resetTracker (g : GroupIx) (s : State) : State :=
  match s.group g with
  | some x =>
    let y := { x with tracker := Tracker.initial }
    if x.tracker.received = false ∧ x.tracker.accepted = idleWord then s.setGroup g (some y) else s.acceptedChange g y
  | none => s

/-! ## The meanings -/

/-- MOVE_OPENED_NOTICE (R57). -/
def execMoveOpenedNotice (l : LineIx) (s : State) : Host.Outcome State Fault Refusal := .next (s.moveOpened l)

/-- MOVE_CLOSED_NOTICE (R58). -/
def execMoveClosedNotice (l : LineIx) (s : State) : Host.Outcome State Fault Refusal := .next (s.moveClosed l)

/-- CROSSED_CONDITION_CHANGE (R46, R62): the crossed condition is read where the Cabling Verifier holds it. -/
def execCrossedConditionChange (g : GroupIx) (s : State) : Host.Outcome State Fault Refusal := .next (s.crossedChange g)

/-- LINE_SUMMARY_CHANGE (R59 to R63): the summary values are read where the Line Monitor holds them. -/
def execLineSummaryChange (l : LineIx) (s : State) : Host.Outcome State Fault Refusal := .next (s.lineSummary l)

/-- HOLD_OFF_EXPIRY (R59). -/
def execHoldOffExpiry (g : GroupIx) (k : ChanIx) (s : State) : Host.Outcome State Fault Refusal := .next (s.holdOffEnd g k)

/-- RESTORE_WAIT_EXPIRY (R64). -/
def execRestoreWaitExpiry (g : GroupIx) (s : State) : Host.Outcome State Fault Refusal := .next (s.restoreExpiry g)

/-- AGREEMENT_WAIT_EXPIRY (R81). -/
def execAgreementWaitExpiry (g : GroupIx) (s : State) : Host.Outcome State Fault Refusal :=
  .next (s.timed (.agreementWaitExpiry g) (State.agreementExpiry g))

/-- TRIAL_WAIT_EXPIRY (R82). -/
def execTrialWaitExpiry (g : GroupIx) (s : State) : Host.Outcome State Fault Refusal := .next (s.trialExpiry g)

end Sys2Proof.Machine
end

