-- ==== Sys2Proof/Machine/Groups.lean ====
section
/-!
DEFINITION. Machine/Groups.lean: the commands of the Protection Controller: GROUP SETUP, GROUP SERVICE, PROTECTION REQUEST
and READ GROUP (Sections 3 and 4).
-/
namespace Sys2Proof.Machine

/-! ## GROUP SETUP (R43 to R46, R83) -/

/-- R46: a change of membership or admin state is reported to the three blocks. -/
def State.reportMembership (g : GroupIx) (s : State) : State := ((s.crossedTest).offerGroup g).formCoverage

/-- R44: a line is named by another configured group. -/
def Protection.memberElsewhere (p : Protection) (g : GroupIx) (l : LineIx) : Bool :=
  allGroups.any fun h => h != g && (match p.groups.get h with
    | some x => x.member l
    | none => false)

/-- R44: the lines of a configure form break the membership rule. -/
def Protection.conflict (p : Protection) (g : GroupIx) (lines : List LineIx) : Bool :=
  decide (¬ lines.Nodup) || lines.any (p.memberElsewhere g)

/-- The group is in service. -/
def State.inService (s : State) (g : GroupIx) : Bool :=
  match s.group g with
  | some x => x.inService
  | none => false

/-- R83: a channel that is not in service has no condition and no hold-off. -/
def Chan.idle : Chan := ⟨.none, none⟩

/-- R45, R83: the record of a newly configured group. `crossed` is the flag as it stands until the crossed test is made. -/
def Group.configured (arch : Architecture) (bidir revertive : Bool) (prot : LineIx) (working : List LineIx)
    (holdOff restoreTime timeout : Nat) (crossed : Bool) : Group :=
  { arch := arch, bidir := bidir, revertive := revertive, prot := prot, working := working, holdOff := holdOff,
    restoreTime := restoreTime, timeout := timeout, inService := false, list := [],
    chans := Vector.replicate 6 Chan.idle, restoreWait := none, crossed := crossed, lastWinner := winnerOf none,
    eff := ⟨.idle, 0, true⟩, bridged := 0, selected := 0, signal := .quiet, tracker := Tracker.initial, mismatch := false,
    protoFault := false, own := [], agreeWait := none, trialWait := none }

/-- R83: a raised MODE_MISMATCH or PROTOCOL_FAULT of an old record is handed over as cleared, in this order (log entry 35). -/
def State.clearRecordAlarms (g : GroupIx) (x : Group) (s : State) : State :=
  let t := if x.mismatch then s.handAlarm (.group .modeMismatch g) false else s
  if x.protoFault then t.handAlarm (.group .protocolFault g) false else t

/-- R45: the record takes the new parts, and the change is reported. -/
def State.configureGroup (g : GroupIx) (new : Bool → Group) (s : State) : State :=
  match s.group g with
  | none => (s.setGroup g (some (new false))).reportMembership g
  | some x => ((s.setGroup g (some (new x.crossed))).clearRecordAlarms g x).reportMembership g

/-- R43: the lines a configure form names: the protection line and the working list, whose length must fit the
architecture. -/
def readMembers (oneToN : Bool) (x : GroupSetupParams) : Option (LineIx × List LineIx) :=
  let n := x.count.toNat
  if 1 ≤ n ∧ n ≤ (if oneToN then 6 else 1) then
    match readLineIx x.prot, (x.working.toList.take n).mapM readLineIx with
    | some p, some ws => some (p, ws)
    | _, _ => none
  else none

/-- R43: GROUP SETUP, configure form. -/
def cmdGroupConfigure (x : GroupSetupParams) : Command := fun s =>
  match readGroupIx x.group, readFlag x.arch, readFlag x.direction, readFlag x.revertive with
  | some g, some oneToN, some bidir, some revertive =>
    (match readMembers oneToN x with
    | some (prot, working) =>
      if s.inService g then refuseWith .groupInService s
      else if s.prot.conflict g (prot :: working) then refuseWith .memberConflict s
      else
        let holdOff := clamp 0 100 x.holdOff.toNat
        let restoreTime := clamp 30 900 x.restoreWait.toNat
        let timeout := clamp 5 100 x.timeout.toNat
        taken (holdOff != x.holdOff.toNat || restoreTime != x.restoreWait.toNat || timeout != x.timeout.toNat)
          (s.configureGroup g (Group.configured (if oneToN then .oneToN else .onePlusOne) bidir revertive prot working
            holdOff restoreTime timeout))
    | none => refuseWith .outOfRange s)
  | _, _, _, _ => refuseWith .outOfRange s

/-- R45, R46, R83: a group returns to unconfigured. Its conditions are handed over as cleared in the order MODE_MISMATCH,
PROTOCOL_FAULT, GROUP_CROSSED, and the membership is reported after them (log entry 35). -/
def State.removeGroup (g : GroupIx) (s : State) : State :=
  match s.group g with
  | none => s
  | some x =>
    let t := State.clearRecordAlarms g x (s.setGroup g none)
    State.reportMembership g (if x.crossed then t.handAlarm (.group .groupCrossed g) false else t)

/-- R43: GROUP SETUP, remove form. -/
def cmdGroupRemove (group : Byte) : Command := fun s =>
  match readGroupIx group with
  | some g => if s.inService g then refuseWith .groupInService s else taken false (s.removeGroup g)
  | none => refuseWith .outOfRange s

/-! ## GROUP SERVICE (R47 to R50) -/

/-- R49: the working line of channel `k` is PRESENT and echoes select PROTECTION. -/
def Line.echoesProtection (ln : Line) : Bool := ln.presence == .present && ln.lastGood.echoSelect == 2#2

/-- R49: the adopted channel. -/
def State.adopted (s : State) (x : Group) : Option ChanIx :=
  let prot := s.line x.prot
  allChans.find? fun k =>
    match x.lineOf k with
    | some w =>
      (s.line w).echoesProtection &&
        (x.arch == .onePlusOne || (prot.presence == .present && prot.lastGood.echoBridge.toNat == k.val + 2))
    | none => false

/-- R48 step 2: an adopted channel enters RESTORE_WAIT or HOLD_SWITCHED. -/
def Group.adopt (k : Option ChanIx) (x : Group) : Group :=
  match k with
  | some c => x.enter (x.keeper c)
  | none => x

/-- R48 step 4: the CABLING requests of the member ports with a move open, the protection line first. -/
def Group.enterMoves (cb : Cabling) (x : Group) : Group :=
  (x.prot :: x.working).foldl (fun y l => if (cb.ports.get l).move.isSome then y.enter (cablingRequest y l) else y) x

/-- R48 step 5: each channel's condition; one other than NONE starts its hold-off. -/
def Group.formConditions (lines : Vector Line 16) (x : Group) : Group :=
  { x with chans := Vector.ofFn fun k =>
      match x.lineOf k with
      | some w => ⟨(lines.get w).chanCond, if (lines.get w).chanCond = .none then none else some 0⟩
      | none => Chan.idle }

/-- R48, R83: the group enters service. -/
def State.serviceIn (g : GroupIx) (x : Group) (s : State) : State :=
  let a : Group := { x with inService := true, lastWinner := winnerOf none, own := [], eff := ⟨.idle, 0, true⟩,
                            bridged := 0, selected := 0, signal := .quiet, agreeWait := none, trialWait := none,
                            list := [], restoreWait := none }
  let b := (a.adopt (s.adopted a)).withProtFail (s.protFailCause a)
  let c := (b.enterMoves s.cabling).formConditions s.lines
  State.reportMembership g ((s.setGroup g (some c)).resolve g)

/-- R50 step 1: the notice to the issuer of the external request. -/
def State.notifyServiceOut (p : LinkPort) (g : GroupIx) (x : Group) (s : State) : State :=
  match externalOf x.list with
  | some e =>
    (match e.issuer with
    | some i => if i = p then s else s.issue (.requestClearedByOther g i e.cls e.chan .service)
    | none => s)
  | none => s

/-- R50: the group leaves service by a command of port `p`. -/
def State.serviceOut (p : LinkPort) (g : GroupIx) (x : Group) (s : State) : State :=
  let t := s.notifyServiceOut p g x
  let y : Group := { x with list := [], chans := Vector.replicate 6 Chan.idle, restoreWait := none, agreeWait := none,
                            trialWait := none, protoFault := false, own := [], eff := ⟨.idle, 0, true⟩,
                            lastWinner := winnerOf none, inService := false, selected := 0, bridged := 0, signal := .quiet }
  let u := State.handFault g x y (t.setGroup g (some y))
  (u.commandMembers y fun _ => LineCmd.unowned).reportMembership g

/-- R47: GROUP SERVICE; `on` is IN. -/
def cmdGroupService (p : LinkPort) (group : Byte) (on : Bool) : Command := fun s =>
  match readGroupIx group with
  | none => refuseWith .outOfRange s
  | some g =>
    match s.group g with
    | none => refuseWith .notConfigured s
    | some x =>
      taken false (if x.inService = on then s else if on then s.serviceIn g x else s.serviceOut p g x)

/-! ## PROTECTION REQUEST (R54 to R56, R158) -/

/-- R158: the request class of a kind, `none` for CLEAR. -/
def readRequestKind (kind : Byte) : Option (Option ReqClass) :=
  match kind.toNat with
  | 15 => some (some .lockout)
  | 13 => some (some .force)
  | 10 => some (some .manual)
  | 8 => some (some .trial)
  | 0 => some none
  | _ => none

/-- R55: the reference class of a new request of issuer `p`. -/
def State.referenceClass (s : State) (p : LinkPort) (x : Group) : ReqClass :=
  let es := match externalOf x.list with
    | some e => if e.issuer = some p then x.list.filter (fun y => !y.external) else x.list
    | none => x.list
  (winnerOf (pickWinner (s.line x.prot).rawDegrade es)).cls

/-- R55: the notice to another issuer whose request is displaced by a request of `p`. -/
def State.notifyDisplaced (p : LinkPort) (g : GroupIx) (x : Group) (c : ReqClass) (s : State) : State :=
  match externalOf x.list with
  | some e => if e.issuer = some p then s else s.notifyPreempted g e c (some (.port p))
  | none => s

/-- R55: the request enters, the list is resolved, and a TRIAL is tested (R82). -/
def State.placeRequest (p : LinkPort) (g : GroupIx) (x : Group) (c : ReqClass) (chan : Nat) (s : State) : State :=
  State.testTrial g (State.changeList g (fun y => (y.drop (·.external)).enter ⟨c, chan, .port p, none⟩)
    (s.notifyDisplaced p g x c))

/-- R54 step 5: a channel of a LOCKOUT is 0; any other must be a channel of the group. -/
def readRequestChan (x : Group) (c : ReqClass) (channel : Byte) : Option Nat :=
  if c = .lockout then some 0
  else if 1 ≤ channel.toNat ∧ channel.toNat ≤ x.working.length then some channel.toNat else none

/-- R56: the notice to another issuer whose request port `p` clears. -/
def State.notifyCleared (p : LinkPort) (g : GroupIx) (e : ReqEntry) (s : State) : State :=
  match e.issuer with
  | some i => if i = p then s else s.issue (.requestClearedByOther g i e.cls e.chan (.port p))
  | none => s

/-- R56: CLEAR from port `p`, for an in-service group `x`. -/
def clearRequest (p : LinkPort) (g : GroupIx) (x : Group) : Command := fun s =>
  match externalOf x.list with
  | none => taken false s
  | some e =>
    if p = .c ∧ e.issuer ≠ some .c then refuseWith .notIssuer s
    else taken false ((s.notifyCleared p g e).changeList g (Group.drop (·.external)))

/-- R54, steps 3 and 4: the group a request names is configured and in service. -/
def withServing (g : GroupIx) (f : Group → Command) : Command := fun s =>
  match s.group g with
  | none => refuseWith .notConfigured s
  | some x => if x.inService then f x s else refuseWith .notPermitted s

/-- R54: PROTECTION REQUEST. -/
def cmdProtectionRequest (p : LinkPort) (group kind channel : Byte) : Command := fun s =>
  match readGroupIx group, readRequestKind kind with
  | some g, some none => withServing g (clearRequest p g) s
  | some g, some (some c) =>
    if p = .c ∧ c ≠ .lockout then refuseWith .notPermitted s
    else withServing g (fun x s =>
      match readRequestChan x c channel with
      | none => refuseWith .outOfRange s
      | some chan =>
        if ReqClass.code c ≤ ReqClass.code (s.referenceClass p x) then refuseWith .outranked s
        else taken false (s.placeRequest p g x c chan)) s
  | _, _ => refuseWith .outOfRange s

/-- R54, R56: PROTECTION REQUEST with kind CLEAR. -/
def cmdProtectionClear (p : LinkPort) (group : Byte) : Command := fun s =>
  match readGroupIx group with
  | some g => withServing g (clearRequest p g) s
  | none => refuseWith .outOfRange s

/-! ## READ GROUP (R67, R84, R169) -/

def Architecture.isOneToN : Architecture → Bool
  | .onePlusOne => false
  | .oneToN => true

/-- The signal states in the order of the table of 3.1; R80 has another order (log entry 42). -/
def SignalState.code : SignalState → Nat
  | .quiet => 0
  | .requesting => 1
  | .switched => 2
  | .releasing => 3

/-- The channel conditions in the order of the table of 3.1; R59 has another order (log entry 42). -/
def ChanCond.code : ChanCond → Nat
  | .none => 0
  | .sd => 1
  | .sf => 2

/-- What remains of a timer that counts to `limit`; 0 when stopped. -/
def remaining (limit : Nat) : Option Nat → Nat
  | some n => limit - n
  | none => 0

/-- The source of a winner as a code; an IDLE winner's is a free value (log entry 3). -/
def winnerSource (s : State) (w : Winner) : Field :=
  match w.source with
  | some x => .code (ReqSource.code x)
  | none => s.freeCode .idleSource

/-- R84: the far-end part. -/
def farEndFields (s : State) (x : Group) : List Field :=
  let a := x.tracker.accepted
  [.code (Pcw.cls a), .code (Pcw.chan a), .code (Pcw.bridged a), .bit (Pcw.oneToN a), .bit (Pcw.bidir a),
   .bit (Pcw.revertive a), .bit (Pcw.parity a), .bit x.tracker.received,
   .qty 2 (match x.tracker.last with
     | some w => w.toNat
     | none => s.draw .noCountedWord % 65536),
   .qty 1 x.tracker.run, .bit x.disregarded, .qty 1 x.own.length, .qty 2 (remaining (x.timeout * 10) x.agreeWait),
   .qty 2 (remaining (x.timeout * 10) x.trialWait)]

/-- R67: the RECORD part of a configured group. The configured flag, as 1, is sent first, and the working list
in six places, with 0xFF past its end (log entry 34). -/
def groupRecordFields (s : State) (x : Group) : List Field :=
  let w := winnerOf (s.winningEntry x)
  List.flatten [
    [.bit true, .bit x.arch.isOneToN, .bit x.bidir, .bit x.revertive, .qty 1 x.prot.val],
    (allChans.map fun k => .qty 1 (lineOrFF (x.lineOf k))),
    [.qty 1 x.holdOff, .qty 2 x.restoreTime, .qty 1 x.timeout, .bit x.inService, .code (SignalState.code x.signal),
       .code x.selected, .code x.bridged, .code (ReqClass.code w.cls), .code w.chan, winnerSource s w,
       .code (ReqClass.code x.eff.cls), .code x.eff.chan],
    ((allChans.take x.working.length).flatMap fun k =>
        [.code (ChanCond.code (x.chans.get k).cond), .qty 1 (remaining x.holdOff (x.chans.get k).hold)]),
    [.qty 2 (remaining x.restoreTime x.restoreWait), .bit x.crossed, .bit x.protoFault, .bit x.mismatch],
    farEndFields s x,
    ((x.prot :: x.working).map fun l => .bit (s.prot.covered.get l)),
    [.bit (x.selected != 0)]]

/-- R67: an entry of the LIST part. Every SIGNAL_DEGRADE entry carries the held flag, and no other entry (log entry 34). -/
def entryListFields (degraded : Bool) (e : ReqEntry) : List Field :=
  List.flatten [
    [.code (ReqClass.code e.cls), .code e.chan, .code (ReqSource.code e.source)],
    (if e.cls = .signalDegrade then [.bit (e.held degraded)] else []),
    (match e.source with
       | .cabling => [.qty 1 (lineOrFF e.line)]
       | _ => [])]

/-- R67: the LIST part of a configured group. The configured flag, as 1, is sent first (log entry 34). -/
def groupListFields (s : State) (x : Group) : List Field :=
  [.bit true, .qty 1 x.list.length] ++ x.list.flatMap (entryListFields (s.line x.prot).rawDegrade)

/-- R67: READ GROUP. An unconfigured group returns the configured flag as 0 and nothing else. -/
def cmdReadGroup (group part : Byte) : Command := fun s =>
  match readGroupIx group, readFlag part with
  | some g, some list =>
    (match s.group g with
    | none => results [.bit false] s
    | some x => results (if list then groupListFields s x else groupRecordFields s x) s)
  | _, _ => refuseWith .outOfRange s

end Sys2Proof.Machine
end

