-- ==== Sys2Proof/Machine/Cabling.lean ====
section
/-!
DEFINITION. Machine/Cabling.lean: the Cabling Verifier (Section 2): the expectation map, polling, tag reads, cabling states,
moves, locates, its part of a shelf restart, and the commands CABLE EXPECT, CABLE MOVE, CABLE MOVE CANCEL, LOCATE and READ
CABLE.
-/
namespace Sys2Proof.Machine

/-! ## The out-of-turn list and the read in flight (R25, R27) -/

/-- R25: a port is appended to the out-of-turn list unless it is there. -/
def State.appendTurn (l : LineIx) (s : State) : State :=
  if s.cabling.outOfTurn.contains l then s
  else { s with cabling := { s.cabling with outOfTurn := s.cabling.outOfTurn ++ [l] } }

/-- R27: a read in flight on the port is discarded. -/
def State.discardRead (l : LineIx) (s : State) : State :=
  if s.cabling.read = some l then { s with cabling := { s.cabling with read := none } } else s

/-! ## Changes of state (R29, R32, R33) -/

/-- R33 step 3: the cabling alarm conditions that a change from `old` to `new` changes are handed over, in the order of their
type codes (log entry 35). -/
def State.handCableAlarms (l : LineIx) (old new : CableState) (s : State) : State :=
  forEach walkCableTypes (fun t u =>
    if (old.alarm? == some t) = (new.alarm? == some t) then u else u.handAlarm (.line t l) (new.alarm? == some t)) s

/-- R33: the port takes the state `st`, and a change is handed on. -/
def State.setCableState (l : LineIx) (st : CableState) (s : State) : State :=
  let old := (s.port l).state
  if st = old then s
  else
    let t := (s.modPort l fun p => { p with state := st }).issue (.cableState l st)
    let u := (t.offerCabling l).handCableAlarms l old st
    match u.prot.groupOf l with
    | some g => u.crossedChange g
    | none => u

/-- The outcome run and the failed-read count are set to 0. -/
def State.clearRuns (l : LineIx) (s : State) : State := s.modPort l fun p => { p with run := none, failed := 0 }

/-- R21: the state of the port from its kind and the accepted connector presence. -/
def State.presenceOf (s : State) (l : LineIx) : CableState := presenceState (s.port l).expect (s.line l).connAccepted

/-- R30 to R32: what becomes of one port, if it is SWAPPED naming `p`. -/
def State.resetPartner (p l : LineIx) (s : State) : State :=
  if s.cabling.swappedWith l p then
    let st : CableState := match (s.port l).expect with
      | .vacant => .unexpected
      | _ => .unverified
    State.appendTurn l ((s.clearRuns l).setCableState l st)
  else s

/-- R32: the ports that are SWAPPED naming `p` as partner. -/
def State.resetPartners (p : LineIx) (s : State) : State := forEach allLines (State.resetPartner p) s

/-- R27, R29, R36, R40: a changed accepted connector presence is handed over. -/
def State.presenceChanged (l : LineIx) (s : State) : State :=
  let t := (s.discardRead l).modPort l fun p => { p with locate := none, agreeRun := 0 }
  if (t.port l).move.isSome then t.appendTurn l
  else State.appendTurn l ((t.clearRuns l).setCableState l (t.presenceOf l))

/-! ## Moves (R35 to R38) -/

/-- R36, R37: the pending expectation is removed, the window timer stopped and the move open flag cleared. -/
def State.closeMove (l : LineIx) (s : State) : State := s.modPort l fun p => { p with move := none, agreeRun := 0 }

/-- R36: the move completes with its pending cord. -/
def State.completeMove (l : LineIx) (m : Move) (s : State) : State :=
  let t := (s.modPort l fun p => { p with expect := .planned m.pending }).closeMove l
  let u := ((t.clearRuns l).setCableState l .agreed).issue (.moveDone l m.pending.id)
  ((u.chirp .move).resetPartners l).moveClosed l

/-- R37, R38: the move is abandoned; `expired` hands MOVE_EXPIRED to the Alarm Table. -/
def State.abandonMove (l : LineIx) (expired : Bool) (s : State) : State :=
  let t := (s.closeMove l).discardRead l
  let u := State.appendTurn l ((t.clearRuns l).setCableState l (t.presenceOf l))
  let v := if expired then u.raiseAlarm (.line .moveExpired l) else u
  (v.resetPartners l).moveClosed l

/-- R37: the window timer has reached the window. -/
def CablePort.windowDue (p : CablePort) : Bool :=
  match p.move with
  | some m => decide (m.window * 60 ≤ m.elapsed)
  | none => false

/-- R37: the window of an open move expires. -/
def State.windowExpiry (l : LineIx) (s : State) : State :=
  if (s.port l).move.isSome then s.abandonMove l true else s

/-- R37: the window timer counts a 1 s tick. -/
def State.tickWindow (l : LineIx) (s : State) : State :=
  let t := s.modPort l fun p => { p with move := p.move.map fun m => { m with elapsed := m.elapsed + 1 } }
  if (t.port l).windowDue then t.windowExpiry l else t

/-- R35: the notice of a move closed by a shelf restart that is still due is taken before a new move opens on the port. -/
def State.settleDue (l : LineIx) (s : State) : State :=
  if s.due.contains (.moveClosedNotice l) then
    State.moveClosed l { s with due := s.due.filter (· != .moveClosedNotice l) }
  else s

/-- R35: the move is entered. -/
def State.openMove (l : LineIx) (c : Cord) (window : Nat) (s : State) : State :=
  let t := (s.modPort l fun p =>
    { p with move := some ⟨c, window, 0⟩, agreeRun := 0, run := none, failed := 0 }).discardRead l
  (((t.setCableState l .moving).appendTurn l).resetPartners l).moveOpened l

/-- R35: CABLE MOVE. -/
def cmdCableMove (port : Byte) (cord : Word32) (e cls window : Byte) : Command := fun s =>
  match readLineIx port, readCord cord e cls with
  | some l, some c =>
    if (s.port l).move.isSome then refuseWith .busy s
    else if s.cabling.duplicate c.id then refuseWith .duplicateCord s
    else taken (clamp 1 120 window.toNat != window.toNat) ((s.settleDue l).openMove l c (clamp 1 120 window.toNat))
  | _, _ => refuseWith .outOfRange s

/-- R38: CABLE MOVE CANCEL. -/
def cmdCableMoveCancel (port : Byte) : Command := fun s =>
  match readLineIx port with
  | none => refuseWith .outOfRange s
  | some l => if (s.port l).move.isSome then taken false (s.abandonMove l false) else refuseWith .notConfigured s

/-! ## CABLE EXPECT (R21 to R23) -/

/-- R21: the entry takes a new expectation. -/
def State.writeExpectation (l : LineIx) (e : Expectation) (s : State) : State :=
  let t := ((s.modPort l fun p => { p with expect := e }).clearRuns l).discardRead l
  ((t.setCableState l (t.presenceOf l)).appendTurn l).resetPartners l

/-- R21: the expectation a CABLE EXPECT gives. -/
def readExpectation (kind : Byte) (cord : Word32) (e cls : Byte) : Option Expectation :=
  match kind.toNat with
  | 0 => some .unplanned
  | 1 => some .vacant
  | 2 => (readCord cord e cls).map .planned
  | _ => none

/-- R22: an expectation whose cord is held elsewhere. -/
def Cabling.expectDuplicate (cb : Cabling) (l : LineIx) : Expectation → Bool
  | .planned c => cb.duplicateFor l c.id
  | _ => false

/-- R21: CABLE EXPECT, port form. -/
def cmdCableExpect (port kind : Byte) (cord : Word32) (e cls : Byte) : Command := fun s =>
  match readLineIx port, readExpectation kind cord e cls with
  | some l, some x =>
    if (s.port l).move.isSome then refuseWith .busy s
    else if s.cabling.expectDuplicate l x then refuseWith .duplicateCord s
    else taken false (s.writeExpectation l x)
  | _, _ => refuseWith .outOfRange s

/-- R23: CABLE EXPECT, shelf form. -/
def cmdPollSlot (slot : Word16) : Command := fun s =>
  let n := clamp 50 1000 slot.toNat
  taken (n != slot.toNat) { s with cabling := { s.cabling with pollSlot := n, pollCount := 0 } }

/-! ## Polling and tag reads (R24, R26, R28, R30, R31) -/

/-- R24: the port may be read. -/
def State.readable (s : State) (l : LineIx) : Bool := Machine.readable (s.port l) (s.line l).connAccepted

/-- R24 step 2: the ports in the order of the round-robin search, the position's own port last. -/
def roundFrom (pos : LineIx) : List LineIx := (List.range 16).map fun i => pos + 1 + Fin.ofNat 16 i

/-- R24: the port chosen at a slot expiry, and the list and position after it. -/
def State.choosePort (s : State) : State :=
  match s.cabling.outOfTurn.dropWhile fun l => !s.readable l with
  | l :: rest => { s with cabling := { s.cabling with outOfTurn := rest, read := some l } }
  | [] =>
    match (roundFrom s.cabling.roundRobin).find? s.readable with
    | some l => { s with cabling := { s.cabling with outOfTurn := [], read := some l, roundRobin := l } }
    | none => { s with cabling := { s.cabling with outOfTurn := [] } }

/-- R23, R24: the poll slot expires: the count restarts, and a port is chosen. -/
def State.pollExpiry (s : State) : State := State.choosePort { s with cabling := { s.cabling with pollCount := 0 } }

/-- R23: the poll slot counts a 1 ms tick. -/
def State.tickPoll (s : State) : State :=
  let t : State := { s with cabling := { s.cabling with pollCount := s.cabling.pollCount + 1 } }
  if t.cabling.pollSlot ≤ t.cabling.pollCount then t.fire .pollSlotExpiry State.pollExpiry else t

/-- R30: the state that an outcome concludes. -/
def TagOutcome.conclusion : TagOutcome → Option CableState
  | .agree => some .agreed
  | .wrongEnd => some (.mismatch .wrongEnd)
  | .wrongClass => some (.mismatch .wrongClass)
  | .blank => some (.mismatch .blank)
  | .foreign => some (.mismatch .foreign)
  | .elsewhere q => some (.swapped q)
  | .other => none
  | .notYet => none

/-- R30: the outcome run after an outcome other than AGREE and OTHER. -/
def nextRun (run : Option (TagOutcome × Nat)) (o : TagOutcome) : Option (TagOutcome × Nat) :=
  match run with
  | some (o', _) => if o' = o then some (o, 2) else some (o, 1)
  | none => some (o, 1)

/-- R30: the outcome makes a conclusion: it is the second of its run. -/
def concludes (run : Option (TagOutcome × Nat)) (o : TagOutcome) : Bool := run == some (o, 1)

/-- R30: an outcome is applied to a port with no move open. -/
def State.applyOutcome (l : LineIx) (o : TagOutcome) (s : State) : State :=
  let p := s.port l
  match o with
  | .agree => (s.modPort l fun x => { x with run := none }).setCableState l .agreed
  | .other =>
    let t := s.modPort l fun x => { x with run := some (.other, 1) }
    (match p.state with
    | .swapped _ => t.setCableState l .unexpected
    | _ => t)
  | _ =>
    let t := s.modPort l fun x => { x with run := nextRun p.run o }
    match concludes p.run o, o.conclusion with
    | true, some st => t.setCableState l st
    | _, _ => t

/-- R36: an outcome is applied to a port with the move `m` open. -/
def State.applyMoveOutcome (l : LineIx) (m : Move) (o : TagOutcome) (s : State) : State :=
  if o = .agree then
    (if (s.port l).agreeRun + 1 < 2 then s.modPort l fun p => { p with agreeRun := p.agreeRun + 1 }
     else s.completeMove l m)
  else s.modPort l fun p => { p with agreeRun := 0 }

/-- R28, R30, R36: a read of the port ends with a result. -/
def State.applyTag (l : LineIx) (tag : Cord) (s : State) : State :=
  let o := classify s.cabling l tag
  let t := s.modPort l fun p => { p with failed := 0, lastTag := tag }
  match (s.port l).move with
  | some m => t.applyMoveOutcome l m o
  | none => t.applyOutcome l o

/-- R31: a read of the port ends in a failure; the kind of failure makes no difference. -/
def State.applyFailure (l : LineIx) (s : State) : State :=
  let n := min 3 ((s.port l).failed + 1)
  let t := s.modPort l fun p => { p with failed := n }
  match (s.port l).move, (s.port l).expect with
  | none, .planned _ => if n = 3 then t.setCableState l .unreadable else t
  | _, _ => t

/-- R26: the read in flight ends; with none in flight there is nothing to end. -/
def State.endRead (f : LineIx → State → State) (s : State) : State :=
  match s.cabling.read with
  | some l => f l { s with cabling := { s.cabling with read := none } }
  | none => s

/-- R26: six bytes have been received; a wrong check byte makes the end CHECK_FAIL. -/
def State.tagReceived (tag : Vector Byte 6) (s : State) : State :=
  s.endRead fun l t => if goodTag tag then t.applyTag l (readTag tag) else t.applyFailure l

/-! ## Locates (R39, R40) -/

/-- R39: LOCATE on. -/
def cmdLocateOn (port : Byte) (duration : Word16) : Command := fun s =>
  match readLineIx port with
  | none => refuseWith .outOfRange s
  | some l =>
    let d := clamp 10 1800 duration.toNat
    taken (d != duration.toNat) (s.modPort l fun p => { p with locate := some ⟨d, 0⟩ })

/-- R39: LOCATE off. -/
def cmdLocateOff (port : Byte) : Command := fun s =>
  match readLineIx port with
  | none => refuseWith .outOfRange s
  | some l => taken false (s.modPort l fun p => { p with locate := none })

/-- R40: the locate timer has reached the duration. -/
def CablePort.locateDue (p : CablePort) : Bool :=
  match p.locate with
  | some x => decide (x.duration ≤ x.elapsed)
  | none => false

/-- R40: the locate ends at its timer's expiry. -/
def State.locateExpiry (l : LineIx) (s : State) : State := s.modPort l fun p => { p with locate := none }

/-- R40: the locate timer counts a 1 s tick. -/
def State.tickLocate (l : LineIx) (s : State) : State :=
  let t := s.modPort l fun p => { p with locate := p.locate.map fun x => { x with elapsed := x.elapsed + 1 } }
  if (t.port l).locateDue then t.locateExpiry l else t

/-! ## Shelf restart (R42) -/

/-- R42 step 4: the state of a port at a shelf restart. -/
def restartState (e : Expectation) (present : Bool) : CableState :=
  match e with
  | .planned _ => .unverified
  | _ => presenceState e present

/-- R42: a port at a shelf restart. -/
def CablePort.restarted (present : Bool) (p : CablePort) : CablePort :=
  { p with move := none, agreeRun := 0, locate := none, run := none, failed := 0, state := restartState p.expect present }

/-- R42 steps 2 and 6 and the offers: what the Cabling Verifier hands on at a shelf restart, in its order. -/
def State.restartHandOvers (s : State) : List Instr :=
  ((allLines.filter fun l => (s.port l).move.isSome &&
      (match s.prot.groupOf l with
       | some g => s.inService g
       | none => false)).map Instr.moveClosedNotice) ++
  ((allGroups.filter fun g =>
      (match s.group g with
       | some x => x.crossed
       | none => false)).map Instr.crossedConditionChange) ++
  allLines.map Instr.cablingStateOffer

/-- R42: the Cabling Verifier restarts; its notices and offers become due, and its alarm conditions are handed over: those
of all 16 ports together, within this step and before any hand-over that becomes due is taken (log entry 22). -/
def State.restartCabling (s : State) : State :=
  let ports := Vector.ofFn fun l => (s.port l).restarted (s.line l).connAccepted
  let t : State :=
    { s with
      cabling := { s.cabling with ports := ports, read := none
                                  outOfTurn := allLines.filter fun l => (s.port l).expect != .unplanned }
      due := s.due ++ s.restartHandOvers }
  forEach allLines (fun l => State.handCableAlarms l (s.port l).state (t.port l).state) t

/-! ## READ CABLE (R41, R169) -/

def Expectation.code : Expectation → Nat
  | .unplanned => 0
  | .vacant => 1
  | .planned _ => 2

/-- A cord's identifier, end and class; zero when there is none. -/
def cordFields : Option Cord → List Field
  | some c => [.qty 4 c.id.toNat, .bit (c.fin == .b), .code c.cls]
  | none => [.qty 4 0, .bit false, .code 0]

def Expectation.cord : Expectation → Option Cord
  | .planned c => some c
  | _ => none

/-- The outcomes coded from 0, in the order AGREE, WRONG_END, WRONG_CLASS, BLANK, FOREIGN, ELSEWHERE, OTHER, NOT_YET, in which R30
lists the first six; R28 has another order (log entry 42). -/
def TagOutcome.code : TagOutcome → Nat
  | .agree => 0
  | .wrongEnd => 1
  | .wrongClass => 2
  | .blank => 3
  | .foreign => 4
  | .elsewhere _ => 5
  | .other => 6
  | .notYet => 7

def TagOutcome.partner : TagOutcome → Option LineIx
  | .elsewhere q => some q
  | _ => none

/-- R41: the move part; window and seconds remaining are free values with no move open (log entry 4). -/
def moveFields (s : State) (p : CablePort) : List Field :=
  [.bit p.move.isSome] ++ cordFields (p.move.map (·.pending)) ++
  (match p.move with
   | some m => [.qty 1 m.window, .qty 2 (m.window * 60 - m.elapsed)]
   | none => [s.freeByte .noMoveWindow, .qty 2 (s.draw .noMoveWindow / 256 % 65536)])

/-- R41: the state part; the detail is a free value in a state other than MISMATCH (log entry 4). -/
def cableStateFields (s : State) (st : CableState) : List Field :=
  [.code (CableState.code st),
   (match st with
    | .mismatch _ => .code (CableState.detailCode st - 1)
    | _ => s.freeCode .noDetail),
   .qty 1 (CableState.partnerCode st)]

/-- R41: the outcome run; the outcome of an empty run is a free value (log entry 4). -/
def runFields (s : State) : Option (TagOutcome × Nat) → List Field
  | some (o, n) => [.code (TagOutcome.code o), .qty 1 (lineOrFF o.partner), .qty 1 n]
  | none => [s.freeCode .noOutcome, .qty 1 0xFF, .qty 1 0]

/-- R41: the crossed condition of the line's group; for a line in no group a free value (log entry 4). It is sent in one bit, as a
flag, and not in a code's four bits with a code for none (log entry 34). -/
def crossedField (s : State) (l : LineIx) : Field :=
  match (s.prot.groupOf l).bind s.group with
  | some g => .bit (crossedCond s.cabling g)
  | none => .bit (s.flip .noGroup)

/-- R41: the results of READ CABLE. The out-of-turn list's length is sent before its contents (log entry 34). -/
def cableFields (s : State) (l : LineIx) : List Field :=
  let p := s.port l
  List.flatten [
    [.code (Expectation.code p.expect)],
    cordFields p.expect.cord,
    moveFields s p,
    cableStateFields s p.state,
    runFields s p.run,
    [.qty 1 p.agreeRun, .qty 1 p.failed],
    cordFields (some p.lastTag),
    [.bit (s.line l).connAccepted, .bit p.locate.isSome,
       .qty 2 (match p.locate with
         | some x => x.duration - x.elapsed
         | none => s.draw .noLocate % 65536),
       .bit (s.cabling.partnerLit l), crossedField s l, .qty 2 s.cabling.pollSlot, .qty 1 s.cabling.roundRobin.val,
       .qty 1 s.cabling.outOfTurn.length],
    s.cabling.outOfTurn.map fun q => .qty 1 q.val]

/-- R41: READ CABLE. -/
def cmdReadCable (port : Byte) : Command := fun s =>
  match readLineIx port with
  | some l => results (cableFields s l) s
  | none => refuseWith .outOfRange s

/-! ## The meanings -/

/-- POLL_SLOT_EXPIRY (R23, R24). -/
def execPollSlotExpiry (s : State) : Host.Outcome State Fault Refusal :=
  .next (s.timed .pollSlotExpiry State.pollExpiry)

/-- TAG_READ_RESULT (R26, R28, R30, R36). -/
def execTagReadResult (tag : Vector Byte 6) (s : State) : Host.Outcome State Fault Refusal := .next (s.tagReceived tag)

/-- TAG_READ_FAILURE (R26, R31): the three failures are applied alike. -/
def execTagReadFailure (_f : TagFailure) (s : State) : Host.Outcome State Fault Refusal :=
  .next (s.endRead State.applyFailure)

/-- MOVE_WINDOW_EXPIRY (R37). -/
def execMoveWindowExpiry (l : LineIx) (s : State) : Host.Outcome State Fault Refusal := .next (s.windowExpiry l)

/-- LOCATE_TIMER_EXPIRY (R40). -/
def execLocateTimerExpiry (l : LineIx) (s : State) : Host.Outcome State Fault Refusal := .next (s.locateExpiry l)

end Sys2Proof.Machine
end

