-- ==== Sys2Proof/Machine/LineMonitor.lean ====
section
/-!
DEFINITION. Machine/LineMonitor.lean: the Line Scan Controller and the Line Monitor (Section 1): scans, inbound records,
error bins, soak integration, connector presence, selector echo, the outbound image, and the commands LINE SETUP and READ
LINE.
-/
namespace Sys2Proof.Machine

/-! ## Hand-overs of a line (R8) -/

/-- R8: the change of a line that was `old` is handed on: the summary values to the Protection Controller, then the defects
to the Reference Monitor (log entry 33). -/
def State.handLine (l : LineIx) (old : Line) (s : State) : State :=
  let t := if (s.line l).rawFail = old.rawFail ∧ (s.line l).rawDegrade = old.rawDegrade then s else s.lineSummary l
  if (s.line l).defect = old.defect then t else t.offerDefect l

/-- A change of a line, handed on at the moment it is made (R7, R8). -/
def State.changeLine (l : LineIx) (f : Line → Line) (s : State) : State :=
  State.handLine l (s.line l) (s.setLine l (f (s.line l)))

/-! ## Error bins (R9 to R11, R13) -/

/-- R13: the error bins are cleared. -/
def Line.clearBins (ln : Line) : Line :=
  { ln with excBin := 0, lastExcBin := 0, clearRun := 0, sdBin := 0, ring := List.replicate 10 0,
            raw := { ln.raw with exc := false, sd := false } }

/-- R9: an addition to a bin saturates at 65,535. -/
def addErrors (bin n : Nat) : Nat := min 65535 (bin + n)

/-- R9: a record's block errors are added to both bins. -/
def Line.addBlockErrors (n : Nat) (ln : Line) : Line :=
  { ln with excBin := addErrors ln.excBin n, sdBin := addErrors ln.sdBin n }

/-- R10: the EXC bin closes; the tenth low bin of the clear run is left to `excEnd`. -/
def Line.closeExc (ln : Line) : Line :=
  let x := { ln with excBin := 0, lastExcBin := ln.excBin }
  if ln.raw.exc then { x with clearRun := if ln.excBin ≤ ln.settings.excClear then ln.clearRun + 1 else 0 }
  else if ln.settings.excSet ≤ ln.excBin then { x with raw := { ln.raw with exc := true } }
  else x

/-- R10: EXC becomes absent, and the clear run is set to 0. -/
def Line.excEnd (ln : Line) : Line :=
  if ln.raw.exc then { ln with clearRun := 0, raw := { ln.raw with exc := false } } else ln

/-- R11: the current SD bin closes into the ring, and the sum is compared. -/
def Line.closeSd (ln : Line) : Line :=
  let x := { ln with sdBin := 0, ring := (ln.sdBin :: ln.ring).take 10 }
  let sd := if ln.raw.sd then !decide (x.ringSum ≤ ln.settings.sdClear) else decide (ln.settings.sdSet ≤ x.ringSum)
  { x with raw := { ln.raw with sd := sd } }

/-- R10: EXC clears. -/
def State.excClear (l : LineIx) (s : State) : State := s.changeLine l Line.excEnd

/-- R10: a line's EXC bin closes at a 100 ms tick; EXC clears when the clear run reaches 10. -/
def State.closeExc (l : LineIx) (s : State) : State :=
  let t := s.changeLine l Line.closeExc
  if 10 ≤ (t.line l).clearRun then t.excClear l else t

/-- R11: a line's SD bin closes at a 1 s tick. -/
def State.closeSd (l : LineIx) (s : State) : State := s.changeLine l Line.closeSd

/-! ## Soak integration (R14, R15) -/

/-- R14: the counters of a condition after a sample. -/
def Soak.sample (present : Bool) (x : Soak) : Soak :=
  if present then { x with clearCount := 0, raiseCount := min 100 (x.raiseCount + 1) }
  else { x with raiseCount := 0, clearCount := min 300 (x.clearCount + 1) }

def Line.setSoak (c : Cond) (x : Soak) (ln : Line) : Line := { ln with soak := ln.soak.set c x }

/-- R14: the raise counter has reached the soak-raise time. -/
def Line.raiseDue (ln : Line) (c : Cond) : Bool := decide (ln.settings.soakRaise ≤ (ln.soak.get c).raiseCount)

/-- R14, R15: the clear counter has reached the soak-clear time, in 100 ms ticks. -/
def Line.clearDue (ln : Line) (c : Cond) : Bool := decide (ln.settings.soakClear * 10 ≤ (ln.soak.get c).clearCount)

/-- R14: an integrated condition takes a value, handed to the Alarm Table. -/
def State.integrate (l : LineIx) (c : Cond) (value : Bool) (s : State) : State :=
  State.handAlarm (.line (Cond.alarm c) l) value
    (s.setLine l ((s.line l).setSoak c { (s.line l).soak.get c with integrated := value }))

/-- R14: the integrated condition of an equipped line is raised, if it is clear. -/
def State.integratedRaise (l : LineIx) (c : Cond) (s : State) : State :=
  if (s.line l).settings.equipped ∧ ((s.line l).soak.get c).integrated = false then s.integrate l c true else s

/-- R14: the integrated condition of an equipped line is cleared, if it is raised. -/
def State.integratedClear (l : LineIx) (c : Cond) (s : State) : State :=
  if (s.line l).settings.equipped ∧ ((s.line l).soak.get c).integrated = true then s.integrate l c false else s

/-- R14: one condition of a line is sampled. -/
def State.soakOne (l : LineIx) (c : Cond) (s : State) : State :=
  let ln := (s.line l).setSoak c (Soak.sample ((s.line l).raw.get c) ((s.line l).soak.get c))
  let t := s.setLine l ln
  if ln.raw.get c then (if ln.raiseDue c then t.integratedRaise l c else t)
  else if ln.clearDue c then t.integratedClear l c
  else t

/-- R14, R15: the conditions of an equipped line are sampled at a 100 ms tick, in the order of their alarm type codes (log entry
35). -/
def State.soakSample (l : LineIx) (s : State) : State :=
  if (s.line l).settings.equipped then forEach allConds (State.soakOne l) s else s

/-! ## Connector presence (R16) -/

/-- R16: the accepted value takes the sample's value, if it differs, and is handed to the Cabling Verifier. -/
def State.acceptPresence (l : LineIx) (s : State) : State :=
  let ln := s.line l
  if ln.lastGood.connPresent ≠ ln.connAccepted then
    State.presenceChanged l (s.setLine l { ln with connAccepted := ln.lastGood.connPresent, connCount := 0 })
  else s

/-- R16: the connector-present bit of the last good record is sampled. -/
def State.samplePresence (l : LineIx) (s : State) : State :=
  let ln := s.line l
  if ln.lastGood.connPresent = ln.connAccepted then s.setLine l { ln with connCount := 0 }
  else if ln.connCount + 1 < 2 then s.setLine l { ln with connCount := ln.connCount + 1 }
  else s.acceptPresence l

/-! ## Selector echo (R17) -/

/-- R17: the select echo differs from a select command that was not HOLD. -/
def selectDiffers (c : SelectCmd) (echo : BitVec 2) : Bool := c != .hold && SelectCmd.code c != echo.toNat

/-- R17: the bridge echo differs from a bridge command that was not HOLD. -/
def bridgeDiffers (c : BridgeCmd) (echo : BitVec 4) : Bool := c != .hold && BridgeCmd.code c != echo.toNat

/-- R50: the image in use holds HOLD in both fields, so that no in-service group commanded the line at the last scan start: the
echoes of this scan are not compared, whatever the image before held (log entry 40). -/
def Line.uncommanded (ln : Line) : Bool := ln.out.select == .hold && ln.out.bridge == .hold

/-- R17: the mismatch run and SELECTOR_FAULT after a good record. A comparison with two HOLD commands finds no difference,
and so has the effect that R17 gives for no comparison. From the first scan start after a group leaves service its lines are not
compared (R50; log entry 40). -/
def Line.checkEcho (r : InRecord) (ln : Line) : Line :=
  if r.cardPresent && !ln.uncommanded && (selectDiffers ln.prevOut.select r.echoSelect || bridgeDiffers ln.prevOut.bridge r.echoBridge) then
    { ln with mismatchRun := min 3 (ln.mismatchRun + 1), selectorFault := ln.selectorFault || decide (2 ≤ ln.mismatchRun) }
  else { ln with mismatchRun := 0, selectorFault := false }

/-- R17: a change of SELECTOR_FAULT is handed to the Alarm Table. -/
def State.handSelector (l : LineIx) (old : Line) (s : State) : State :=
  if (s.line l).selectorFault = old.selectorFault then s
  else s.handAlarm (.line .selectorFault l) (s.line l).selectorFault

/-! ## Inbound records (R3 to R9) -/

/-- R4, R6, R7: the conditions a good record sets. -/
def Line.take (r : InRecord) (ln : Line) : Line :=
  { ln with
    lastGood := r
    badCount := 0
    presence := if r.cardPresent then .present else .absent
    raw := { ln.raw with lol := r.lol, lfa := r.lfa, ffi := r.ffi, rfi := r.rfi, cardUnreadable := false
                         cardAbsent := ln.settings.equipped && !r.cardPresent } }

/-- R4 to R9, R13, R17: a line after a good record. -/
def Line.good (r : InRecord) (ln : Line) : Line :=
  let x := ln.take r
  let y := if r.cardPresent = false ∧ ln.presence ≠ .absent then x.clearBins else x
  Line.checkEcho r (y.addBlockErrors r.blockErrors.toNat)

/-- R5: a line after a bad record. -/
def Line.bad (ln : Line) : Line :=
  if ln.badCount = 2 then
    Line.clearBins { ln with badCount := 3, raw := { ln.raw with cardUnreadable := true } }
  else { ln with badCount := min 3 (ln.badCount + 1) }

/-- R72: raw LOL or raw LFA is present. -/
def Line.lost (ln : Line) : Bool := ln.raw.lol || ln.raw.lfa

/-- R8, R70, R72: the received word goes to the group whose protection line this is. -/
def State.handWord (l : LineIx) (old : Line) (r : InRecord) (s : State) : State :=
  match s.prot.role l with
  | .protection g =>
    if (s.line l).lost then (if old.lost then s else s.resetTracker g)
    else if r.pcwValid then s.receiveWord g r.word else s
  | _ => s

/-- R8, R100: a received quality code that differs from the last goes to the Reference Monitor. -/
def State.handQuality (l : LineIx) (old : Line) (s : State) : State :=
  if (s.line l).lastGood.quality = old.lastGood.quality then s else s.offerQuality l

/-- R4: a good record is processed. The hand-overs are made in this order: the summary values, the defects, SELECTOR_FAULT,
the received word, the quality code (log entry 33). -/
def State.goodRecord (l : LineIx) (r : InRecord) (s : State) : State :=
  let old := s.line l
  (((s.changeLine l (Line.good r)).handSelector l old).handWord l old r).handQuality l old

/-- R4, R5: a record is processed, good or bad. -/
def State.processRecord (l : LineIx) (record : Vector Byte 7) (s : State) : State :=
  if Machine.goodRecord record then s.goodRecord l (readRecord record) else s.changeLine l Line.bad

/-- R59: a running hold-off of 0 counts the record of its channel's line. -/
def Group.countRecord (k : ChanIx) (x : Group) : Group :=
  if x.inService && x.holdOff == 0 then
    { x with chans := x.chans.set k.val ⟨(x.chans.get k).cond, (x.chans.get k).hold.map (· + 1)⟩ }
  else x

/-- R59: a line's record reaches its channel's hold-off of 0, if one is running. -/
def State.countRecord (l : LineIx) (s : State) : State :=
  match s.prot.role l with
  | .working g k => s.modGroup g (Group.countRecord k)
  | _ => s

/-- R59: the hold-off of 0 of a line's channel ends at this record. -/
def State.recordEndsHoldOff (l : LineIx) (s : State) : Bool :=
  match s.prot.role l with
  | .working g k =>
    (match s.group g with
    | some x => x.holdOff == 0 && x.holdDue k
    | none => false)
  | _ => false

/-- R59: the hold-off of 0 of a line's channel ends, if it is to end at this record. -/
def State.recordHoldOff (l : LineIx) (s : State) : State :=
  match s.prot.role l with
  | .working g k => if s.recordEndsHoldOff l then s.holdOffEnd g k else s
  | _ => s

/-- R3: the slot whose record comes next; the scan ends with L15. -/
def nextSlot (l : LineIx) : Option LineIx := if l = 15 then none else some (l + 1)

/-- R3, R4, R59: a slot's record has arrived, and its slot's turn of the scan is past. Where a hold-off of 0 ends at it, it is
free which comes first, the record's change of the line or the end of the hold-off. -/
def State.inboundRecord (l : LineIx) (record : Vector Byte 7) (s : State) : State :=
  let t := State.countRecord l
    { s with scan := { s.scan with next := nextSlot l }, fired := s.fired.filter (· != .scanStart) }
  if t.recordEndsHoldOff l then
    State.spend (if s.flip .recordOrder then (t.recordHoldOff l).processRecord l record
      else (t.processRecord l record).recordHoldOff l)
  else t.processRecord l record

/-! ## Scans and the outbound image (R1, R2, R18, R117) -/

/-- R2: the outbound record of a line as its owners hold it. -/
def State.outboundFor (s : State) (l : LineIx) : OutRecord :=
  { bridge := (s.prot.out.get l).bridge
    select := (s.prot.out.get l).select
    lamp := lampCode (s.line l) s.cabling l
    quality := if s.clock.feeding = some l then 15 else s.clock.ownQual
    word := (s.prot.out.get l).word }

/-- R2: the outbound records of all 16 slots are latched. -/
def State.latch (s : State) : State :=
  { s with lines := Vector.ofFn fun l => { s.line l with out := s.outboundFor l, prevOut := (s.line l).out } }

/-- R1: the scan interval expires: the count restarts, and a scan starts. -/
def State.scanStart (s : State) : State := State.latch { s with scan := { s.scan with count := 0, next := some 0 } }

/-- R1: the scan interval counts a 1 ms tick. -/
def State.tickScan (s : State) : State :=
  let t : State := { s with scan := { s.scan with count := s.scan.count + 1 } }
  if t.scan.interval ≤ t.scan.count then t.fire .scanStart State.scanStart else t

/-! ## LINE SETUP (R1, R12, R15, R19) -/

/-- R1, R19: LINE SETUP, shelf form. -/
def cmdScanInterval (interval : Byte) : Command := fun s =>
  let n := clamp 1 8 interval.toNat
  taken (n != interval.toNat) { s with scan := { s.scan with interval := n, count := 0 } }

/-- R12: a clear threshold beside its set threshold, both already within 1 to 65,535. -/
def clearBelow (set clear : Nat) : Nat := if set ≤ clear then set - 1 else clear

/-- R12, R15: the settings of a LINE SETUP, clamped. -/
def LineSettings.read (equipped : Bool) (x : LineSetupParams) : LineSettings :=
  let excSet := clamp 1 65535 x.excSet.toNat
  let sdSet := clamp 1 65535 x.sdSet.toNat
  { equipped := equipped
    soakRaise := clamp 5 100 x.soakRaise.toNat
    soakClear := clamp 1 30 x.soakClear.toNat
    excSet := excSet
    excClear := clearBelow excSet (clamp 1 65535 x.excClear.toNat)
    sdSet := sdSet
    sdClear := clearBelow sdSet (clamp 1 65535 x.sdClear.toNat) }

/-- R12, R169: a set and a clear threshold are adjusted: one is 0 and is clamped to 1, or the clear threshold so clamped is
not below the set threshold. -/
def thresholdsAdjusted (set clear : Nat) : Bool :=
  set == 0 || clear == 0 || decide (clamp 1 65535 set ≤ clamp 1 65535 clear)

/-- R12, R15: a value of a LINE SETUP is clamped. -/
def lineSetupClamped (x : LineSetupParams) (k : LineSettings) : Bool :=
  k.soakRaise != x.soakRaise.toNat || k.soakClear != x.soakClear.toNat ||
  thresholdsAdjusted x.excSet.toNat x.excClear.toNat || thresholdsAdjusted x.sdSet.toNat x.sdClear.toNat

/-- R7, R15, R19: a line takes its settings. A line that is not equipped has no integration. -/
def Line.configure (k : LineSettings) (ln : Line) : Line :=
  { ln with settings := k
            raw := { ln.raw with cardAbsent := k.equipped && ln.presence == .absent }
            soak := if k.equipped then ln.soak else PerCond.all ⟨0, 0, false⟩ }

/-- R15, R19: the settings take effect; integrated conditions that end are handed to the Alarm Table, in the order of their type
codes (log entry 35). -/
def State.setupLine (l : LineIx) (k : LineSettings) (s : State) : State :=
  let old := s.line l
  forEach allConds (fun c t =>
    if (old.soak.get c).integrated && !k.equipped then t.handAlarm (.line (Cond.alarm c) l) false else t)
    (s.changeLine l (Line.configure k))

/-- R19: LINE SETUP, line form. -/
def cmdLineSetup (x : LineSetupParams) : Command := fun s =>
  match readLineIx x.line, readFlag x.equipped with
  | some l, some equipped =>
    let k := LineSettings.read equipped x
    taken (lineSetupClamped x k) (s.setupLine l k)
  | _, _ => refuseWith .outOfRange s

/-! ## READ LINE (R20, R169) -/

def CardPresence.code : CardPresence → Nat
  | .unknown => 0
  | .present => 1
  | .absent => 2

/-- R20: the results of READ LINE. -/
def lineFields (s : State) (l : LineIx) : List Field :=
  let ln := s.line l
  let k := ln.settings
  let r := ln.lastGood
  List.flatten [
    [.bit k.equipped, .qty 1 k.soakRaise, .qty 1 k.soakClear, .qty 2 k.excSet, .qty 2 k.excClear, .qty 2 k.sdSet,
       .qty 2 k.sdClear, .qty 1 s.scan.interval, .code (CardPresence.code ln.presence), .qty 1 ln.badCount],
    (allConds.map fun c => .bit (ln.raw.get c)),
    [.bit ln.rawFail, .bit ln.rawDegrade],
    (allConds.map fun c => .bit (ln.soak.get c).integrated),
    [.bit ln.selectorFault, .qty 2 ln.lastExcBin, .qty 1 ln.clearRun, .qty 3 ln.ringSum, .bit ln.connAccepted,
       .qty 1 ln.mismatchRun, .code r.echoSelect.toNat, .code r.echoBridge.toNat, .code r.quality.toNat,
       .qty 1 r.blockErrors.toNat, .bit r.pcwValid, .qty 2 r.word.toNat,
       .code (BridgeCmd.code ln.out.bridge), .code (SelectCmd.code ln.out.select), .code (Lamp.code ln.out.lamp),
       .code ln.out.quality, .qty 2 ln.out.word.toNat]]

/-- R20: READ LINE. -/
def cmdReadLine (line : Byte) : Command := fun s =>
  match readLineIx line with
  | some l => results (lineFields s l) s
  | none => refuseWith .outOfRange s

/-! ## The meanings -/

/-- EXC_CLEAR (R10). -/
def execExcClear (l : LineIx) (s : State) : Host.Outcome State Fault Refusal := .next (s.excClear l)

/-- INTEGRATED_RAISE (R14). -/
def execIntegratedRaise (l : LineIx) (c : Cond) (s : State) : Host.Outcome State Fault Refusal :=
  .next (s.integratedRaise l c)

/-- INTEGRATED_CLEAR (R14). -/
def execIntegratedClear (l : LineIx) (c : Cond) (s : State) : Host.Outcome State Fault Refusal :=
  .next (s.integratedClear l c)

/-- CONNECTOR_PRESENCE_ACCEPTED (R16). -/
def execConnectorPresenceAccepted (l : LineIx) (s : State) : Host.Outcome State Fault Refusal :=
  .next (s.acceptPresence l)

/-- SCAN_START (R1, R2). -/
def execScanStart (s : State) : Host.Outcome State Fault Refusal := .next (s.timed .scanStart State.scanStart)

/-- INBOUND_RECORD (R3 to R9, R13, R17). -/
def execInboundRecord (l : LineIx) (record : Vector Byte 7) (s : State) : Host.Outcome State Fault Refusal :=
  .next (s.inboundRecord l record)

end Sys2Proof.Machine
end

