-- ==== Sys2Proof/Machine/TimeBase.lean ====
section
/-!
DEFINITION. Machine/TimeBase.lean: the Time Base (5.1): the tick cascade, the seconds counter, the work of every block at the
1 ms, 100 ms and 1 s ticks, and the command TIME SET.
-/
namespace Sys2Proof.Machine

/-- A configured group's record satisfies a condition. -/
def State.groupHas (s : State) (g : GroupIx) (p : Group → Bool) : Bool :=
  match s.group g with
  | some x => p x
  | none => false

/-! ## The work of a 1 ms tick -/

/-- R81, R82: the running waits of a group count a 1 ms tick. -/
def Group.tickWaits (x : Group) : Group :=
  { x with agreeWait := x.agreeWait.map (· + 1), trialWait := x.trialWait.map (· + 1) }

/-- R81: a group's agreement wait expires at a 1 ms tick, if it has reached the protocol timeout. -/
def State.endAgree (g : GroupIx) (s : State) : State :=
  if s.groupHas g Group.agreeDue then s.fire (.agreementWaitExpiry g) (State.agreementExpiry g) else s

/-- R82: a group's trial wait expires at a 1 ms tick, if it has reached the protocol timeout. -/
def State.endTrialWait (g : GroupIx) (s : State) : State :=
  if s.groupHas g Group.trialDue then s.trialExpiry g else s

/-- R81, R82: the waits of a group at a 1 ms tick: both count, and those that have reached the protocol timeout expire. Where
both have, it is free which expires first (log entry 12). -/
def State.tickWaits (g : GroupIx) (s : State) : State :=
  let t := s.modGroup g Group.tickWaits
  if t.groupHas g (fun x => x.agreeDue && x.trialDue) && s.flip (.waitOrder g.val) then (t.endTrialWait g).endAgree g
  else (t.endAgree g).endTrialWait g

/-- R81, R82: the waits of all groups at a 1 ms tick. -/
def State.tickAllWaits (s : State) : State := forEach allGroups State.tickWaits s

/-- R81, R82: some wait reaches the protocol timeout at the next 1 ms tick. -/
def State.waitsDue (s : State) : Bool :=
  allGroups.any fun g => s.groupHas g fun x => x.tickWaits.agreeDue || x.tickWaits.trialDue

/-- R1, R23, R81, R82, R141: the work of a 1 ms tick; `pin` is the level of ACO_PB*. Where a wait expires, it is free whether a
scan that starts at this tick latches the outbound fields before or after it (R2, R79; log entry 12). The poll slot counts after
both, and ACO_PB* is sampled last (log entry 39). -/
def State.workMilli (pin : Bool) (s : State) : State :=
  let t := if s.waitsDue && s.flip .latchOrder then s.tickAllWaits.tickScan else s.tickScan.tickAllWaits
  t.tickPoll.sampleButton pin

/-! ## The work of a 100 ms tick -/

/-- R59: the running hold-offs above 0 count a 100 ms tick. -/
def Group.tickHoldOffs (x : Group) : Group :=
  if x.inService && x.holdOff != 0 then
    { x with chans := x.chans.map fun c => { c with hold := c.hold.map (· + 1) } }
  else x

/-- R59: the hold-offs of all groups count. -/
def State.countHoldOffs (s : State) : State := forEach allGroups (fun g t => t.modGroup g Group.tickHoldOffs) s

/-- R59: the hold-offs above 0 that have reached their time end. -/
def State.endHoldOffs (s : State) : State :=
  forEach allGroups (fun g t => forEach allChans (fun k u =>
    if u.groupHas g (fun x => x.holdOff != 0 && x.holdDue k) then u.holdOffEnd g k else u) t) s

/-- R10: the closing of the EXC bin changes EXC. -/
def Line.excChanges (ln : Line) : Bool :=
  if ln.raw.exc then decide (10 ≤ ln.closeExc.clearRun) else ln.closeExc.raw.exc

/-- R10, R14, R16: a line's work at a 100 ms tick. Where EXC changes, it is free which comes first, the closing of the EXC
bin or the soak sample (R14). The connector presence is sampled after both (log entry 39). -/
def State.lineTenth (l : LineIx) (s : State) : State :=
  State.samplePresence l
    (if (s.line l).excChanges && s.flip (.sampleOrder l.val) then (s.soakSample l).closeExc l
     else (s.closeExc l).soakSample l)

/-- R59: a hold-off above 0 has reached its time. -/
def State.holdOffsDue (s : State) : Bool :=
  allGroups.any fun g => allChans.any fun k => s.groupHas g fun x => x.holdOff != 0 && x.holdDue k

/-- R10, R14, R16, R59: the work of a 100 ms tick whose hold-offs are counted. Where a hold-off ends, it is free which comes
first, the lines' work or the ends of hold-offs (R59). -/
def State.tenthWork (s : State) : State :=
  if s.holdOffsDue && s.flip .holdOffOrder then forEach allLines State.lineTenth s.endHoldOffs
  else (forEach allLines State.lineTenth s).endHoldOffs

/-- R10, R14, R16, R59: the work of a 100 ms tick. The hold-offs are counted first, so that none counts the tick it starts at. -/
def State.workTenth (s : State) : State := s.countHoldOffs.tenthWork

/-! ## The work of a 1 s tick -/

/-- R64: a running restore wait counts a 1 s tick. -/
def Group.tickRestore (x : Group) : Group := { x with restoreWait := x.restoreWait.map (· + 1) }

/-- R64: a group's restore wait at a 1 s tick. -/
def State.tickRestore (g : GroupIx) (s : State) : State :=
  let t := s.modGroup g Group.tickRestore
  if t.groupHas g Group.restoreDue then t.restoreExpiry g else t

/-- R11, R37, R40: the lines' work at a 1 s tick: every SD bin closes, then the move windows count and expire, then the locates
(log entry 39). -/
def State.linesSecond (s : State) : State :=
  forEach allLines State.tickLocate (forEach allLines State.tickWindow (forEach allLines State.closeSd s))

/-- R63, R64: a group has a restore wait running, or a channel selected whose signal entry may give way to one. -/
def State.restoresOpen (s : State) : Bool :=
  allGroups.any fun g => s.groupHas g fun x => x.inService && (x.restoreWait.isSome || x.selected != 0)

/-- R11, R37, R40, R64, R115: the work of a 1 s tick. Where a restore wait runs or may start, it is free which comes first, the
lines' work or the counts and expiries of the restore waits, and so whether a wait that this tick's bin closings start counts
this tick (R64; log entry 12). The holdover age counts after both (log entry 39). -/
def State.workSecond (s : State) : State :=
  State.tickAge
    (if s.restoresOpen && s.flip .restoreOrder then (forEach allGroups State.tickRestore s).linesSecond
     else forEach allGroups State.tickRestore s.linesSecond)

/-! ## The cascade (R85, R86) -/

/-- R85: a 100 ms tick falls at every 100th 1 ms tick. -/
def State.tenthDue (s : State) : Bool := decide (100 ≤ s.time.millis)

/-- R85: a 1 s tick falls at every 10th 100 ms tick. -/
def State.secondDue (s : State) : Bool := decide (10 ≤ s.time.tenths)

/-- R85: the 1 ms tick is counted. -/
def State.countMilli (s : State) : State := { s with time := { s.time with millis := s.time.millis + 1 } }

/-- R85: the 100 ms tick is counted. -/
def State.countTenth (s : State) : State := { s with time := { s.time with millis := 0, tenths := s.time.tenths + 1 } }

/-- R86: the 1 s tick is counted, and the seconds counter rises by 1, wrapping. -/
def State.countSecond (s : State) : State :=
  { s with time := { millis := 0, tenths := 0, seconds := s.time.seconds + 1#32 } }

/-- The events of the tick before are past. -/
def State.newTick (s : State) : State := { s with fired := [] }

/-- R85: the work of a 100 ms tick already counted, with the 1 s tick that falls on it. The seconds counter rises before all
other work (R86), of which `before` and `after` are the 1 ms tick's; which of the two ticks' other work comes first is free. The
hold-offs are counted before both, so that a hold-off the 1 s tick's work starts does not count this 100 ms tick: n steps last more
than (n - 1) × 100 ms (R59). -/
def State.cascade (before after : State → State) (s : State) : State :=
  if s.secondDue then
    after ((before s.countSecond).fire .tick1s
      (fun t => let u := t.countHoldOffs
        if s.flip .secondOrder then u.workSecond.tenthWork else u.tenthWork.workSecond))
  else after (before s).workTenth

/-- R85: a 100 ms tick, with the 1 s tick that every tenth brings. -/
def State.tickTenth (s : State) : State := ((s.newTick.countTenth).cascade id id).spend

/-- R85, R86: a 1 s tick. -/
def State.tickSecond (s : State) : State := s.newTick.countSecond.workSecond.spend

/-- R85: a 1 ms tick; every 100th brings a 100 ms tick, and which of the two ticks' work comes first is free. -/
def State.tickMilli (pin : Bool) (s : State) : State :=
  let t := s.newTick.countMilli
  State.spend
    (if t.tenthDue then
      t.fire .tick100ms fun u =>
        if s.flip .tickOrder then u.countTenth.cascade (State.workMilli pin) id
        else u.countTenth.cascade id (State.workMilli pin)
     else t.workMilli pin)

/-! ## TIME SET (R86) -/

/-- R86: TIME SET. -/
def cmdTimeSet (seconds : Word32) : Command := fun s => taken false { s with time := { s.time with seconds := seconds } }

/-! ## The meanings -/

/-- TICK_1MS (R85). -/
def execTick1ms (pin : Bool) (s : State) : Host.Outcome State Fault Refusal := .next (s.tickMilli pin)

/-- TICK_100MS (R85), unless the 1 ms tick before it brought it. -/
def execTick100ms (s : State) : Host.Outcome State Fault Refusal := .next (s.timed .tick100ms State.tickTenth)

/-- TICK_1S (R85), unless the tick before it brought it. -/
def execTick1s (s : State) : Host.Outcome State Fault Refusal := .next (s.timed .tick1s State.tickSecond)

end Sys2Proof.Machine
end

