-- ==== Sys2Proof/Machine/LinkPorts.lean ====
section
/-!
DEFINITION. Machine/LinkPorts.lean: the Link Ports (Section 9): exchanges of the controller ports, the craft receiver, frames
that fail their checks, READ EVENTS, QUEUE SETUP, SHELF RESTART and the power-on reset.
-/
namespace Sys2Proof.Machine

/-! ## READ EVENTS (R160, R163) -/

/-- R160: the events a read removes: at most `n`, oldest first, while the next record fits the space left. -/
def takeFitting : Nat → Nat → List Event → List Event
  | 0, _, _ => []
  | _, _, [] => []
  | n + 1, space, e :: es => if e.body.size ≤ space then e :: takeFitting n (space - e.body.size) es else []

/-- R163, R164: the queue after a read that removed `k` events; RESYNC marks an overrun. -/
def EventQueue.removed (now : Word32) (k : Nat) (q : EventQueue) : EventQueue :=
  let rest := q.events.drop k
  EventQueue.form
    (if k ≠ 0 ∧ q.overrun = true then { q with events := rest ++ [⟨now, .resync⟩], overrun := false }
     else { q with events := rest })

/-- R160: READ EVENTS, on the queue of the port it arrives on. The number of records is sent with every n, also the 0 of an n of 0
(log entry 34). -/
def cmdReadEvents (p : LinkPort) (n : Byte) : Command := fun s =>
  if n.toNat ≤ 8 then
    let q := s.links.queue p
    let out := takeFitting n.toNat Config.eventSpace q.events
    ({ s with links := s.links.setQueue p (q.removed s.time.seconds out.length) },
     ⟨.ok, [BitVec.ofNat 8 q.events.length, if q.overrun then 1#8 else 0#8, BitVec.ofNat 8 out.length] ++
       out.flatMap (Event.bytes s.free)⟩)
  else refuseWith .outOfRange s

/-! ## QUEUE SETUP (R164) -/

/-- R164: the thresholds that may be set. -/
def thresholds : List Nat := [1, 4, 16, 32]

/-- R164: the threshold of a port takes a value, and its service request is formed again. -/
def State.setThreshold (p : LinkPort) (t : Nat) (s : State) : State :=
  { s with links := s.links.setQueue p (EventQueue.form { s.links.queue p with threshold := t }) }

/-- R164: QUEUE SETUP. -/
def cmdQueueSetup (port threshold : Byte) : Command := fun s =>
  match readPort port with
  | none => refuseWith .outOfRange s
  | some q =>
    if thresholds.contains threshold.toNat then
      taken (q == .c && threshold.toNat == 32)
        (s.setThreshold q (if q = .c ∧ threshold.toNat = 32 then 16 else threshold.toNat))
    else refuseWith .outOfRange s

/-! ## SHELF RESTART (R165) -/

/-- R165 steps 2 and 3: a queue at a shelf restart. -/
def EventQueue.restarted (now : Word32) (q : EventQueue) : EventQueue :=
  EventQueue.form { q with events := [⟨now, .partStart true⟩], overrun := false }

/-- R165 steps 2 and 3, for the three queues. -/
def Links.restarted (now : Word32) (k : Links) : Links :=
  { k with queueA := k.queueA.restarted now, queueB := k.queueB.restarted now, queueC := k.queueC.restarted now }

/-- R165: a hand-over of a restart is taken. -/
def State.handOver (h : Instr) (s : State) : State :=
  match h with
  | .moveClosedNotice l => s.moveClosed l
  | .crossedConditionChange g => s.crossedChange g
  | .cablingStateOffer l => s.offerCabling l
  | _ => s

/-- R165: the next hand-over that is due is taken. -/
def State.takeNext (s : State) : State :=
  match s.due with
  | [] => s
  | h :: r => State.handOver h { s with due := r }

/-- R165: a number of the hand-overs that are due are taken, oldest first. -/
def State.takeDue : Nat → State → State
  | 0, s => s
  | n + 1, s => State.takeDue n s.takeNext

/-- R138, R165: a free number of the hand-overs that are due are taken. -/
def State.takeSome (site : Config.Site) (s : State) : State := s.takeDue (s.draw site % (s.due.length + 1))

/-- R165 step 4: the blocks restart. Whether the Alarm Table's restart comes before the Cabling Verifier's, and how many of
the hand-overs of the restart are taken before and after it within the restart, is free (R138). -/
def State.restartBlocks (s : State) : State :=
  let t := if s.flip .restartOrder then s.restartTable.restartCabling
    else ((s.restartCabling).takeSome .restartBefore).restartTable
  (t.takeSome .restartAfter).spend

/-- R165: SHELF RESTART. The response is placed by the answer. -/
def cmdShelfRestart : Command := fun s =>
  taken false (State.restartBlocks { s with links := s.links.restarted s.time.seconds })

/-! ## Frames that arrive byte by byte, and frames refused (R150 to R153) -/

/-- R153: the command that a frame's bytes give is run by the block that owns it. -/
def runCommand (i : Instr) : Command :=
  match i with
  | .shelfRestart _ => cmdShelfRestart
  | .lineSetupShelfForm _ n => cmdScanInterval n
  | .lineSetupLineForm _ x => cmdLineSetup x
  | .cableExpectShelfForm _ n => cmdPollSlot n
  | .cableExpectPortForm _ port kind cord e cls => cmdCableExpect port kind cord e cls
  | .groupSetupConfigureForm _ x => cmdGroupConfigure x
  | .groupSetupRemoveForm _ g => cmdGroupRemove g
  | .groupServiceIn p g => cmdGroupService p g true
  | .groupServiceOut p g => cmdGroupService p g false
  | .candidateSetup _ x => cmdCandidateSetup x
  | .clockSetup _ x => cmdClockSetup x
  | .severitySetup _ t sa nsa => cmdSeveritySetup t sa nsa
  | .cadenceLoadStepForm _ first steps => cmdCadenceSteps first steps
  | .cadenceLoadDescriptorForm _ x => cmdCadenceDescriptor x
  | .queueSetup _ port t => cmdQueueSetup port t
  | .timeSet _ n => cmdTimeSet n
  | .protectionRequest p g kind ch => cmdProtectionRequest p g kind ch
  | .protectionRequestClear p g => cmdProtectionClear p g
  | .clockRequest p kind c => cmdClockRequest p kind c
  | .candidateLockout _ c kind => cmdCandidateLockout c kind
  | .cableMove _ port cord e cls w => cmdCableMove port cord e cls w
  | .cableMoveCancel _ port => cmdCableMoveCancel port
  | .locateOn _ port d => cmdLocateOn port d
  | .locateOff _ port => cmdLocateOff port
  | .alarmAcknowledgeIndex _ i => cmdAckIndex i
  | .alarmAcknowledgeSeverity _ v => cmdAckSeverity v
  | .alarmAcknowledgeAll _ => cmdAckAll
  | .alarmCutoff p => cmdAlarmCutoff p
  | .readEvents p n => cmdReadEvents p n
  | .readLine _ l => cmdReadLine l
  | .readCable _ l => cmdReadCable l
  | .readGroup _ g part => cmdReadGroup g part
  | .readClock _ => cmdReadClock
  | .readCandidate _ c => cmdReadCandidate c
  | .readAlarms _ n => cmdReadAlarms n
  | .readOffice _ part first => cmdReadOffice part first
  | _ => refuseWith .unknownCommand

/-- R153: what a complete frame does on a port. -/
def frameCommand (p : LinkPort) (frame : List Byte) : Command :=
  match parseFrame p frame with
  | .ok i => runCommand i
  | .error st => refuseWith st

/-! ## Exchanges of the controller ports (R150, R151) -/

/-- R150, R151: select of a controller port changes; what the response buffer held is gone. -/
def State.setExchange (p : CtrlPort) (x : Exchange) (s : State) : State :=
  match p with
  | .a => { s with links := { s.links with exchangeA := x, responseA := none } }
  | .b => { s with links := { s.links with exchangeB := x, responseB := none } }

/-- R150: the exchange of a controller port. -/
def Links.exchange (k : Links) : CtrlPort → Exchange
  | .a => k.exchangeA
  | .b => k.exchangeB

/-- R150: the bytes of a frame that has not yet come to its end are kept. -/
def State.keepBytes (p : CtrlPort) (bs : List Byte) (s : State) : State :=
  match p with
  | .a => { s with links := { s.links with exchangeA := .listening bs } }
  | .b => { s with links := { s.links with exchangeB := .listening bs } }

/-- R150: a byte is clocked in on a controller port. It counts only while select is asserted and the frame has not yet
arrived whole; every other byte is ignored. -/
def State.ctrlByte (p : CtrlPort) (b : Byte) (s : State) : State :=
  match s.links.exchange p with
  | .listening bs =>
    if frameComplete (bs ++ [b]) then s.takeCommand p.link (frameCommand p.link (bs ++ [b])) else s.keepBytes p (bs ++ [b])
  | .released => s
  | .answered => s

/-! ## The craft receiver (R152) -/

def State.setReceiver (r : Receiver) (s : State) : State := { s with links := { s.links with receiver := r } }

/-- R152: a byte without error arrives on Port C. -/
def State.craftByte (b : Byte) (s : State) : State :=
  match s.links.receiver with
  | .waiting =>
    if goodLength b then s.setReceiver (.receiving [b]) else s.takeCommand .c (refuseWith .badLength)
  | .receiving bs =>
    if frameComplete (bs ++ [b]) then s.takeCommand .c (frameCommand .c (bs ++ [b]))
    else s.setReceiver (.receiving (bs ++ [b]))
  | .answering _ => s.setReceiver (.answering true)
  | .skipping _ => s

/-- R152: a byte with a UART error arrives on Port C. -/
def State.craftError (s : State) : State :=
  match s.links.receiver with
  | .waiting => s.setReceiver (.skipping true)
  | .receiving _ => s.setReceiver (.skipping true)
  | .answering _ => s.setReceiver (.answering true)
  | .skipping _ => s

/-- R152: a gap of 20 ms inside a frame of Port C. -/
def State.craftGap (s : State) : State :=
  match s.links.receiver with
  | .receiving _ => s.takeCommand .c (refuseWith .checkFail)
  | _ => s

/-- R152: Port C has been quiet for 20 ms. -/
def State.craftQuiet (s : State) : State :=
  match s.links.receiver with
  | .skipping true => s.takeCommand .c (refuseWith .checkFail)
  | .skipping false => s.setReceiver .waiting
  | _ => s

/-- R152: the last byte of Port C's response has been sent. -/
def State.craftSent (s : State) : State :=
  match s.links.receiver with
  | .answering discarded =>
    { s with links := { s.links with responseC := none
                                     receiver := if discarded then .skipping false else .waiting } }
  | _ => s

/-! ## Bytes on a port (R150, R152, R155) -/

/-- A byte reaches the frame receiver of a port. -/
def State.linkByte (p : LinkPort) (b : Byte) (s : State) : State :=
  match p with
  | .a => s.ctrlByte .a b
  | .b => s.ctrlByte .b b
  | .c => s.craftByte b

/-- Bytes reach the frame receiver of a port, one after another. -/
def State.linkBytes (p : LinkPort) (bs : List Byte) (s : State) : State := forEach bs (State.linkByte p) s

/-- R150, R152: the frame receiver of a port waits for a length byte. -/
def Links.ready (k : Links) : LinkPort → Bool
  | .a => k.exchangeA == .listening []
  | .b => k.exchangeB == .listening []
  | .c => k.receiver == .waiting

/-- The row `i` of a command reaches the port `p`. Where the port waits for a length byte the whole frame arrives, and the
command is taken; in every other state the frame's bytes meet the receiver as it stands (log entry 7). -/
def State.sent (i : Instr) (p : LinkPort) (cmd : Command) (s : State) : State :=
  if s.links.ready p then s.takeCommand p cmd
  else match commandFrame i with
    | some f => s.linkBytes p f.2
    | none => s

/-! ## The meanings -/

/-- POWER_ON_RESET (R42, R68, R102, R121, R138, R149, R166). The queue of commands and the counter of free values are the
model's own and are kept. -/
def execPowerOnReset (s : State) : Host.Outcome State Fault Refusal :=
  .next { State.reset with free := s.free, pending := s.pending }

/-- BAD_FRAME (R150 to R153): the row's bytes reach the port. -/
def execBadFrame (p : LinkPort) (frame : List Byte) (s : State) : Host.Outcome State Fault Refusal :=
  .next (s.linkBytes p frame)

/-- SELECT_ASSERT (R150). -/
def execSelectAssert (p : CtrlPort) (s : State) : Host.Outcome State Fault Refusal := .next (s.setExchange p (.listening []))

/-- SELECT_RELEASE (R151). -/
def execSelectRelease (p : CtrlPort) (s : State) : Host.Outcome State Fault Refusal := .next (s.setExchange p .released)

/-- UART_ERROR (R152). -/
def execUartError (s : State) : Host.Outcome State Fault Refusal := .next s.craftError

/-- FRAME_GAP_TIMEOUT (R152). -/
def execFrameGapTimeout (s : State) : Host.Outcome State Fault Refusal := .next s.craftGap

/-- QUIET_PERIOD_END (R152). -/
def execQuietPeriodEnd (s : State) : Host.Outcome State Fault Refusal := .next s.craftQuiet

/-- RESPONSE_SENT (R152). -/
def execResponseSent (s : State) : Host.Outcome State Fault Refusal := .next s.craftSent

/-- PORT_C_BYTE_RECEIVED (R152). -/
def execPortCByteReceived (b : Byte) (s : State) : Host.Outcome State Fault Refusal := .next (s.craftByte b)

end Sys2Proof.Machine
end

