-- ==== Sys2Proof/Machine/Commands.lean ====
section
/-!
DEFINITION. Machine/Commands.lean: the meanings of the rows that arrive as command frames (R157 to R159). Each hands its
row and what the owning block does with the command to `State.sent`; setup and operation commands that Port C may not use
pass `ctrlOnly` (R156).
-/
namespace Sys2Proof.Machine

/-- SHELF_RESTART (R165, R156). -/
def execShelfRestart (p : LinkPort) (s : State) : Host.Outcome State Fault Refusal :=
  .next (s.sent (.shelfRestart p) p (ctrlOnly p cmdShelfRestart))

/-- LINE_SETUP_SHELF_FORM (R1, R19, R156). -/
def execLineSetupShelfForm (p : LinkPort) (interval : Byte) (s : State) : Host.Outcome State Fault Refusal :=
  .next (s.sent (.lineSetupShelfForm p interval) p (ctrlOnly p (cmdScanInterval interval)))

/-- LINE_SETUP_LINE_FORM (R19, R156). -/
def execLineSetupLineForm (p : LinkPort) (x : LineSetupParams) (s : State) : Host.Outcome State Fault Refusal :=
  .next (s.sent (.lineSetupLineForm p x) p (ctrlOnly p (cmdLineSetup x)))

/-- CABLE_EXPECT_SHELF_FORM (R23, R156). -/
def execCableExpectShelfForm (p : LinkPort) (slot : Word16) (s : State) : Host.Outcome State Fault Refusal :=
  .next (s.sent (.cableExpectShelfForm p slot) p (ctrlOnly p (cmdPollSlot slot)))

/-- CABLE_EXPECT_PORT_FORM (R21, R22, R156). -/
def execCableExpectPortForm (p : LinkPort) (port kind : Byte) (cord : Word32) (e cls : Byte) (s : State) :
    Host.Outcome State Fault Refusal :=
  .next (s.sent (.cableExpectPortForm p port kind cord e cls) p (ctrlOnly p (cmdCableExpect port kind cord e cls)))

/-- GROUP_SETUP_CONFIGURE_FORM (R43 to R46, R156). -/
def execGroupSetupConfigureForm (p : LinkPort) (x : GroupSetupParams) (s : State) :
    Host.Outcome State Fault Refusal :=
  .next (s.sent (.groupSetupConfigureForm p x) p (ctrlOnly p (cmdGroupConfigure x)))

/-- GROUP_SETUP_REMOVE_FORM (R43, R45, R156). -/
def execGroupSetupRemoveForm (p : LinkPort) (group : Byte) (s : State) : Host.Outcome State Fault Refusal :=
  .next (s.sent (.groupSetupRemoveForm p group) p (ctrlOnly p (cmdGroupRemove group)))

/-- GROUP_SERVICE_IN (R47 to R49, R156). -/
def execGroupServiceIn (p : LinkPort) (group : Byte) (s : State) : Host.Outcome State Fault Refusal :=
  .next (s.sent (.groupServiceIn p group) p (ctrlOnly p (cmdGroupService p group true)))

/-- GROUP_SERVICE_OUT (R47, R50, R156). -/
def execGroupServiceOut (p : LinkPort) (group : Byte) (s : State) : Host.Outcome State Fault Refusal :=
  .next (s.sent (.groupServiceOut p group) p (ctrlOnly p (cmdGroupService p group false)))

/-- CANDIDATE_SETUP (R87, R96, R156). -/
def execCandidateSetup (p : LinkPort) (x : CandidateSetupParams) (s : State) : Host.Outcome State Fault Refusal :=
  .next (s.sent (.candidateSetup p x) p (ctrlOnly p (cmdCandidateSetup x)))

/-- CLOCK_SETUP (R88, R104, R156). -/
def execClockSetup (p : LinkPort) (x : ClockSetupParams) (s : State) : Host.Outcome State Fault Refusal :=
  .next (s.sent (.clockSetup p x) p (ctrlOnly p (cmdClockSetup x)))

/-- SEVERITY_SETUP (R123, R156). -/
def execSeveritySetup (p : LinkPort) (type sa nsa : Byte) (s : State) : Host.Outcome State Fault Refusal :=
  .next (s.sent (.severitySetup p type sa nsa) p (ctrlOnly p (cmdSeveritySetup type sa nsa)))

/-- CADENCE_LOAD_STEP_FORM (R147, R156). -/
def execCadenceLoadStepForm (p : LinkPort) (first : Byte) (steps : List RawStep) (s : State) :
    Host.Outcome State Fault Refusal :=
  .next (s.sent (.cadenceLoadStepForm p first steps) p (ctrlOnly p (cmdCadenceSteps first steps)))

/-- CADENCE_LOAD_DESCRIPTOR_FORM (R147, R156). -/
def execCadenceLoadDescriptorForm (p : LinkPort) (x : DescriptorParams) (s : State) :
    Host.Outcome State Fault Refusal :=
  .next (s.sent (.cadenceLoadDescriptorForm p x) p (ctrlOnly p (cmdCadenceDescriptor x)))

/-- QUEUE_SETUP (R164, R156). -/
def execQueueSetup (p : LinkPort) (port threshold : Byte) (s : State) : Host.Outcome State Fault Refusal :=
  .next (s.sent (.queueSetup p port threshold) p (ctrlOnly p (cmdQueueSetup port threshold)))

/-- TIME_SET (R86, R156). -/
def execTimeSet (p : LinkPort) (seconds : Word32) (s : State) : Host.Outcome State Fault Refusal :=
  .next (s.sent (.timeSet p seconds) p (ctrlOnly p (cmdTimeSet seconds)))

/-- PROTECTION_REQUEST (R54, R55). -/
def execProtectionRequest (p : LinkPort) (group kind channel : Byte) (s : State) : Host.Outcome State Fault Refusal :=
  .next (s.sent (.protectionRequest p group kind channel) p (cmdProtectionRequest p group kind channel))

/-- PROTECTION_REQUEST_CLEAR (R54, R56). -/
def execProtectionRequestClear (p : LinkPort) (group : Byte) (s : State) : Host.Outcome State Fault Refusal :=
  .next (s.sent (.protectionRequestClear p group) p (cmdProtectionClear p group))

/-- CLOCK_REQUEST (R107, R156). -/
def execClockRequest (p : LinkPort) (kind cand : Byte) (s : State) : Host.Outcome State Fault Refusal :=
  .next (s.sent (.clockRequest p kind cand) p (ctrlOnly p (cmdClockRequest p kind cand)))

/-- CANDIDATE_LOCKOUT (R108). -/
def execCandidateLockout (p : LinkPort) (cand kind : Byte) (s : State) : Host.Outcome State Fault Refusal :=
  .next (s.sent (.candidateLockout p cand kind) p (ctrlOnly p (cmdCandidateLockout cand kind)))

/-- CABLE_MOVE (R35). -/
def execCableMove (p : LinkPort) (port : Byte) (cord : Word32) (e cls window : Byte) (s : State) :
    Host.Outcome State Fault Refusal :=
  .next (s.sent (.cableMove p port cord e cls window) p (cmdCableMove port cord e cls window))

/-- CABLE_MOVE_CANCEL (R38). -/
def execCableMoveCancel (p : LinkPort) (port : Byte) (s : State) : Host.Outcome State Fault Refusal :=
  .next (s.sent (.cableMoveCancel p port) p (cmdCableMoveCancel port))

/-- LOCATE_ON (R39). -/
def execLocateOn (p : LinkPort) (port : Byte) (duration : Word16) (s : State) : Host.Outcome State Fault Refusal :=
  .next (s.sent (.locateOn p port duration) p (cmdLocateOn port duration))

/-- LOCATE_OFF (R39). -/
def execLocateOff (p : LinkPort) (port : Byte) (s : State) : Host.Outcome State Fault Refusal :=
  .next (s.sent (.locateOff p port) p (cmdLocateOff port))

/-- ALARM_ACKNOWLEDGE_INDEX (R129). -/
def execAlarmAcknowledgeIndex (p : LinkPort) (index : Byte) (s : State) : Host.Outcome State Fault Refusal :=
  .next (s.sent (.alarmAcknowledgeIndex p index) p (cmdAckIndex index))

/-- ALARM_ACKNOWLEDGE_SEVERITY (R129). -/
def execAlarmAcknowledgeSeverity (p : LinkPort) (severity : Byte) (s : State) : Host.Outcome State Fault Refusal :=
  .next (s.sent (.alarmAcknowledgeSeverity p severity) p (cmdAckSeverity severity))

/-- ALARM_ACKNOWLEDGE_ALL (R129). -/
def execAlarmAcknowledgeAll (p : LinkPort) (s : State) : Host.Outcome State Fault Refusal :=
  .next (s.sent (.alarmAcknowledgeAll p) p cmdAckAll)

/-- ALARM_CUTOFF (R141). -/
def execAlarmCutoff (p : LinkPort) (s : State) : Host.Outcome State Fault Refusal :=
  .next (s.sent (.alarmCutoff p) p (cmdAlarmCutoff p))

/-- READ_EVENTS (R160, R163). -/
def execReadEvents (p : LinkPort) (n : Byte) (s : State) : Host.Outcome State Fault Refusal :=
  .next (s.sent (.readEvents p n) p (cmdReadEvents p n))

/-- READ_LINE (R20). -/
def execReadLine (p : LinkPort) (line : Byte) (s : State) : Host.Outcome State Fault Refusal :=
  .next (s.sent (.readLine p line) p (cmdReadLine line))

/-- READ_CABLE (R41). -/
def execReadCable (p : LinkPort) (port : Byte) (s : State) : Host.Outcome State Fault Refusal :=
  .next (s.sent (.readCable p port) p (cmdReadCable port))

/-- READ_GROUP (R67, R84). -/
def execReadGroup (p : LinkPort) (group part : Byte) (s : State) : Host.Outcome State Fault Refusal :=
  .next (s.sent (.readGroup p group part) p (cmdReadGroup group part))

/-- READ_CLOCK (R120). -/
def execReadClock (p : LinkPort) (s : State) : Host.Outcome State Fault Refusal :=
  .next (s.sent (.readClock p) p cmdReadClock)

/-- READ_CANDIDATE (R101). -/
def execReadCandidate (p : LinkPort) (cand : Byte) (s : State) : Host.Outcome State Fault Refusal :=
  .next (s.sent (.readCandidate p cand) p (cmdReadCandidate cand))

/-- READ_ALARMS (R137). -/
def execReadAlarms (p : LinkPort) (start : Byte) (s : State) : Host.Outcome State Fault Refusal :=
  .next (s.sent (.readAlarms p start) p (cmdReadAlarms start))

/-- READ_OFFICE (R148). -/
def execReadOffice (p : LinkPort) (part first : Byte) (s : State) : Host.Outcome State Fault Refusal :=
  .next (s.sent (.readOffice p part first) p (cmdReadOffice part first))

end Sys2Proof.Machine
end

