-- ==== Sys2Proof/Machine/Dispatch.lean ====
section
/-!
DEFINITION. Machine/Dispatch.lean: one arm for each command, calling its meaning.
-/
namespace Sys2Proof.Machine

def exec (i : Instr) (s : State) : Host.Outcome State Fault Refusal :=
  match i with
  | .powerOnReset => Sys2Proof.Machine.execPowerOnReset s
  | .shelfRestart p => Sys2Proof.Machine.execShelfRestart p s
  | .lineSetupShelfForm p interval => Sys2Proof.Machine.execLineSetupShelfForm p interval s
  | .lineSetupLineForm p x => Sys2Proof.Machine.execLineSetupLineForm p x s
  | .cableExpectShelfForm p slot => Sys2Proof.Machine.execCableExpectShelfForm p slot s
  | .cableExpectPortForm p port kind cord e cls => Sys2Proof.Machine.execCableExpectPortForm p port kind cord e cls s
  | .groupSetupConfigureForm p x => Sys2Proof.Machine.execGroupSetupConfigureForm p x s
  | .groupSetupRemoveForm p group => Sys2Proof.Machine.execGroupSetupRemoveForm p group s
  | .groupServiceIn p group => Sys2Proof.Machine.execGroupServiceIn p group s
  | .groupServiceOut p group => Sys2Proof.Machine.execGroupServiceOut p group s
  | .candidateSetup p x => Sys2Proof.Machine.execCandidateSetup p x s
  | .clockSetup p x => Sys2Proof.Machine.execClockSetup p x s
  | .severitySetup p type sa nsa => Sys2Proof.Machine.execSeveritySetup p type sa nsa s
  | .cadenceLoadStepForm p first steps => Sys2Proof.Machine.execCadenceLoadStepForm p first steps s
  | .cadenceLoadDescriptorForm p x => Sys2Proof.Machine.execCadenceLoadDescriptorForm p x s
  | .queueSetup p port threshold => Sys2Proof.Machine.execQueueSetup p port threshold s
  | .timeSet p seconds => Sys2Proof.Machine.execTimeSet p seconds s
  | .protectionRequest p group kind channel => Sys2Proof.Machine.execProtectionRequest p group kind channel s
  | .protectionRequestClear p group => Sys2Proof.Machine.execProtectionRequestClear p group s
  | .clockRequest p kind cand => Sys2Proof.Machine.execClockRequest p kind cand s
  | .candidateLockout p cand kind => Sys2Proof.Machine.execCandidateLockout p cand kind s
  | .cableMove p port cord e cls window => Sys2Proof.Machine.execCableMove p port cord e cls window s
  | .cableMoveCancel p port => Sys2Proof.Machine.execCableMoveCancel p port s
  | .locateOn p port duration => Sys2Proof.Machine.execLocateOn p port duration s
  | .locateOff p port => Sys2Proof.Machine.execLocateOff p port s
  | .alarmAcknowledgeIndex p index => Sys2Proof.Machine.execAlarmAcknowledgeIndex p index s
  | .alarmAcknowledgeSeverity p severity => Sys2Proof.Machine.execAlarmAcknowledgeSeverity p severity s
  | .alarmAcknowledgeAll p => Sys2Proof.Machine.execAlarmAcknowledgeAll p s
  | .alarmCutoff p => Sys2Proof.Machine.execAlarmCutoff p s
  | .readEvents p n => Sys2Proof.Machine.execReadEvents p n s
  | .readLine p line => Sys2Proof.Machine.execReadLine p line s
  | .readCable p port => Sys2Proof.Machine.execReadCable p port s
  | .readGroup p group part => Sys2Proof.Machine.execReadGroup p group part s
  | .readClock p => Sys2Proof.Machine.execReadClock p s
  | .readCandidate p cand => Sys2Proof.Machine.execReadCandidate p cand s
  | .readAlarms p start => Sys2Proof.Machine.execReadAlarms p start s
  | .readOffice p part first => Sys2Proof.Machine.execReadOffice p part first s
  | .badFrame p frame => Sys2Proof.Machine.execBadFrame p frame s
  | .selectAssert p => Sys2Proof.Machine.execSelectAssert p s
  | .selectRelease p => Sys2Proof.Machine.execSelectRelease p s
  | .uartError => Sys2Proof.Machine.execUartError s
  | .frameGapTimeout => Sys2Proof.Machine.execFrameGapTimeout s
  | .quietPeriodEnd => Sys2Proof.Machine.execQuietPeriodEnd s
  | .responseSent => Sys2Proof.Machine.execResponseSent s
  | .tick1ms acoPin => Sys2Proof.Machine.execTick1ms acoPin s
  | .tick100ms => Sys2Proof.Machine.execTick100ms s
  | .tick1s => Sys2Proof.Machine.execTick1s s
  | .excClear l => Sys2Proof.Machine.execExcClear l s
  | .integratedRaise l c => Sys2Proof.Machine.execIntegratedRaise l c s
  | .integratedClear l c => Sys2Proof.Machine.execIntegratedClear l c s
  | .connectorPresenceAccepted l => Sys2Proof.Machine.execConnectorPresenceAccepted l s
  | .scanStart => Sys2Proof.Machine.execScanStart s
  | .inboundRecord l record => Sys2Proof.Machine.execInboundRecord l record s
  | .pollSlotExpiry => Sys2Proof.Machine.execPollSlotExpiry s
  | .tagReadResult tag => Sys2Proof.Machine.execTagReadResult tag s
  | .tagReadFailure f => Sys2Proof.Machine.execTagReadFailure f s
  | .moveWindowExpiry l => Sys2Proof.Machine.execMoveWindowExpiry l s
  | .locateTimerExpiry l => Sys2Proof.Machine.execLocateTimerExpiry l s
  | .moveOpenedNotice l => Sys2Proof.Machine.execMoveOpenedNotice l s
  | .moveClosedNotice l => Sys2Proof.Machine.execMoveClosedNotice l s
  | .crossedConditionChange g => Sys2Proof.Machine.execCrossedConditionChange g s
  | .lineSummaryChange l => Sys2Proof.Machine.execLineSummaryChange l s
  | .holdOffExpiry g k => Sys2Proof.Machine.execHoldOffExpiry g k s
  | .restoreWaitExpiry g => Sys2Proof.Machine.execRestoreWaitExpiry g s
  | .agreementWaitExpiry g => Sys2Proof.Machine.execAgreementWaitExpiry g s
  | .trialWaitExpiry g => Sys2Proof.Machine.execTrialWaitExpiry g s
  | .selectionOffer g => Sys2Proof.Machine.execSelectionOffer g s
  | .lineDefectChange l => Sys2Proof.Machine.execLineDefectChange l s
  | .cablingStateOffer l => Sys2Proof.Machine.execCablingStateOffer l s
  | .activityWindowExpiry c => Sys2Proof.Machine.execActivityWindowExpiry c s
  | .gateStartEdge c => Sys2Proof.Machine.execGateStartEdge c s
  | .gateComplete c count => Sys2Proof.Machine.execGateComplete c count s
  | .candidateOffer c => Sys2Proof.Machine.execCandidateOffer c s
  | .resolvedLineOffer c => Sys2Proof.Machine.execResolvedLineOffer c s
  | .qOffer c q => Sys2Proof.Machine.execQOffer c q s
  | .holdoverAgeLimit => Sys2Proof.Machine.execHoldoverAgeLimit s
  | .steerFrameStart => Sys2Proof.Machine.execSteerFrameStart s
  | .alarmConditionRaise x => Sys2Proof.Machine.execAlarmConditionRaise x s
  | .alarmConditionClear x => Sys2Proof.Machine.execAlarmConditionClear x s
  | .coverageChange l covered => Sys2Proof.Machine.execCoverageChange l covered s
  | .officeOffer items => Sys2Proof.Machine.execOfficeOffer items s
  | .chirpRequest ch => Sys2Proof.Machine.execChirpRequest ch s
  | .cadenceStepEnd => Sys2Proof.Machine.execCadenceStepEnd s
  | .pushbuttonPress => Sys2Proof.Machine.execPushbuttonPress s
  | .pushbuttonRelease => Sys2Proof.Machine.execPushbuttonRelease s
  | .portCByteReceived b => Sys2Proof.Machine.execPortCByteReceived b s

end Sys2Proof.Machine
end

