-- ==== Sys2Proof/Safety.lean ====
section
/-!
DEFINITION. Safety.lean: the terms that statements use: what a command does and answers, which block owns a command, and the
bounds and shapes that the manual says hold at every moment.
-/
namespace Sys2Proof.Machine

/-! ## What a command does -/

/-- The response buffer of a port. -/
def State.response (s : State) : LinkPort → Option Response
  | .a => s.links.responseA
  | .b => s.links.responseB
  | .c => s.links.responseC

/-- The command answers a next state that satisfies `P`. -/
def Does (i : Instr) (s : State) (P : State → Prop) : Prop := ∃ t, exec i s = Host.Outcome.next t ∧ P t

/-- The command answers a next state in which port `p`'s response has the status `st` and no results, and which satisfies
`P`. -/
def Answers (i : Instr) (p : LinkPort) (st : Status) (s : State) (P : State → Prop) : Prop :=
  Does i s fun t => t.response p = some ⟨st, []⟩ ∧ P t

/-- The command changes the state to `t` and answers `r` on port `p`, and does nothing else. -/
def Exactly (i : Instr) (p : LinkPort) (r : Response) (s t : State) : Prop := exec i s = Host.Outcome.next (t.answer p r)

/-- The command does what the event `j` does from the state `u`. -/
def DoesAs (i : Instr) (s : State) (j : Instr) (u : State) : Prop :=
  ∃ t, exec i s = Host.Outcome.next t ∧ exec j u = Host.Outcome.next t

/-- The status of a command that is taken, with a value clamped or not. -/
def takenStatus (clamped : Prop) [Decidable clamped] : Status := if clamped then .okClamped else .ok

/-! ## What a command leaves as it is -/

/-- The parts of the state. -/
inductive Part where
  | time | scan | lines | cabling | prot | ref | clock | alarms | office | links | due | pending
  deriving DecidableEq, Repr

/-- A part of two states is the same. -/
def Part.Same (s t : State) : Part → Prop
  | .time => t.time = s.time
  | .scan => t.scan = s.scan
  | .lines => t.lines = s.lines
  | .cabling => t.cabling = s.cabling
  | .prot => t.prot = s.prot
  | .ref => t.ref = s.ref
  | .clock => t.clock = s.clock
  | .alarms => t.alarms = s.alarms
  | .office => t.office = s.office
  | .links => t.links = s.links
  | .due => t.due = s.due
  | .pending => t.pending = s.pending

/-- Some parts of the state are the same after a command as before it. -/
def Keeps (ps : List Part) (s t : State) : Prop := ∀ x ∈ ps, x.Same s t

/-- The receiving side of a port is the same: its response buffer, and its exchange or its frame receiver. -/
def LinkSame (s t : State) (p : LinkPort) : Prop :=
  t.response p = s.response p ∧
  match p with
  | .a => t.links.exchangeA = s.links.exchangeA
  | .b => t.links.exchangeB = s.links.exchangeB
  | .c => t.links.receiver = s.links.receiver

/-- The thresholds of the three ports are the same. -/
def ThresholdsSame (s t : State) : Prop :=
  t.links.queueA.threshold = s.links.queueA.threshold ∧ t.links.queueB.threshold = s.links.queueB.threshold ∧
  t.links.queueC.threshold = s.links.queueC.threshold

/-! ## Frames and ports -/

/-- R156: the rows of the commands that Port C may use. -/
def craftMay : Instr → Bool
  | .readEvents .. => true
  | .readLine .. => true
  | .readCable .. => true
  | .readGroup .. => true
  | .readClock .. => true
  | .readCandidate .. => true
  | .readAlarms .. => true
  | .readOffice .. => true
  | .alarmAcknowledgeIndex .. => true
  | .alarmAcknowledgeSeverity .. => true
  | .alarmAcknowledgeAll .. => true
  | .alarmCutoff .. => true
  | .locateOn .. => true
  | .locateOff .. => true
  | .cableMove .. => true
  | .cableMoveCancel .. => true
  | .protectionRequest .. => true
  | .protectionRequestClear .. => true
  | _ => false

/-- R150, R152: the frame receiver of a port holds some bytes of a frame that has not yet come to its end. -/
def Links.midFrame (k : Links) : LinkPort → Bool
  | .a => match k.exchangeA with
    | .listening (_ :: _) => true
    | _ => false
  | .b => match k.exchangeB with
    | .listening (_ :: _) => true
    | _ => false
  | .c => match k.receiver with
    | .receiving _ => true
    | _ => false

/-- R157 to R159, 11.5: the parameter counts that a command's code takes, for the codes whose counts depend on no parameter. -/
def paramCounts (code : Nat) : Option (List Nat) :=
  match code with
  | 0x01 => some [1, 12]
  | 0x02 => some [2, 8]
  | 0x03 => some [1, 16]
  | 0x04 => some [2]
  | 0x05 => some [7]
  | 0x06 => some [19]
  | 0x07 => some [3]
  | 0x09 => some [2]
  | 0x0A => some [4]
  | 0x20 => some [3]
  | 0x21 => some [2]
  | 0x22 => some [2]
  | 0x23 => some [8]
  | 0x24 => some [1]
  | 0x25 => some [4]
  | 0x26 => some [2]
  | 0x27 => some [0]
  | 0x2F => some [0]
  | 0x40 => some [1]
  | 0x41 => some [1]
  | 0x42 => some [1]
  | 0x43 => some [2]
  | 0x44 => some [0]
  | 0x45 => some [1]
  | 0x46 => some [1]
  | _ => none

/-- The bytes of the records of some events, together. -/
def recordBytes (es : List Event) : Nat := (es.map (·.body.size)).sum

/-! ## The block that owns a command -/

/-- The blocks of the part. -/
inductive Block where
  | lines | cabling | protection | reference | clock | alarms | office | links | timeBase | whole
  deriving DecidableEq, Repr

/-- The block whose section gives the command's effect; CLOCK SETUP is owned by two, and is counted to the Reference
Monitor. The resets concern the whole part. -/
def owner : Instr → Block
  | .powerOnReset => .whole
  | .shelfRestart _ => .whole
  | .lineSetupShelfForm .. => .lines
  | .lineSetupLineForm .. => .lines
  | .cableExpectShelfForm .. => .cabling
  | .cableExpectPortForm .. => .cabling
  | .groupSetupConfigureForm .. => .protection
  | .groupSetupRemoveForm .. => .protection
  | .groupServiceIn .. => .protection
  | .groupServiceOut .. => .protection
  | .candidateSetup .. => .reference
  | .clockSetup .. => .reference
  | .severitySetup .. => .alarms
  | .cadenceLoadStepForm .. => .office
  | .cadenceLoadDescriptorForm .. => .office
  | .queueSetup .. => .links
  | .timeSet .. => .timeBase
  | .protectionRequest .. => .protection
  | .protectionRequestClear .. => .protection
  | .clockRequest .. => .clock
  | .candidateLockout .. => .reference
  | .cableMove .. => .cabling
  | .cableMoveCancel .. => .cabling
  | .locateOn .. => .cabling
  | .locateOff .. => .cabling
  | .alarmAcknowledgeIndex .. => .alarms
  | .alarmAcknowledgeSeverity .. => .alarms
  | .alarmAcknowledgeAll _ => .alarms
  | .alarmCutoff _ => .office
  | .readEvents .. => .links
  | .readLine .. => .links
  | .readCable .. => .links
  | .readGroup .. => .links
  | .readClock _ => .links
  | .readCandidate .. => .links
  | .readAlarms .. => .links
  | .readOffice .. => .links
  | .badFrame .. => .whole
  | .selectAssert _ => .links
  | .selectRelease _ => .links
  | .uartError => .links
  | .frameGapTimeout => .links
  | .quietPeriodEnd => .links
  | .responseSent => .links
  | .tick1ms _ => .timeBase
  | .tick100ms => .timeBase
  | .tick1s => .timeBase
  | .excClear _ => .lines
  | .integratedRaise .. => .lines
  | .integratedClear .. => .lines
  | .connectorPresenceAccepted _ => .lines
  | .scanStart => .lines
  | .inboundRecord .. => .lines
  | .pollSlotExpiry => .cabling
  | .tagReadResult _ => .cabling
  | .tagReadFailure _ => .cabling
  | .moveWindowExpiry _ => .cabling
  | .locateTimerExpiry _ => .cabling
  | .moveOpenedNotice _ => .protection
  | .moveClosedNotice _ => .protection
  | .crossedConditionChange _ => .protection
  | .lineSummaryChange _ => .protection
  | .holdOffExpiry .. => .protection
  | .restoreWaitExpiry _ => .protection
  | .agreementWaitExpiry _ => .protection
  | .trialWaitExpiry _ => .protection
  | .selectionOffer _ => .reference
  | .lineDefectChange _ => .reference
  | .cablingStateOffer _ => .reference
  | .activityWindowExpiry _ => .reference
  | .gateStartEdge _ => .reference
  | .gateComplete .. => .reference
  | .candidateOffer _ => .clock
  | .resolvedLineOffer _ => .clock
  | .qOffer .. => .clock
  | .holdoverAgeLimit => .clock
  | .steerFrameStart => .clock
  | .alarmConditionRaise _ => .alarms
  | .alarmConditionClear _ => .alarms
  | .coverageChange .. => .alarms
  | .officeOffer _ => .office
  | .chirpRequest _ => .office
  | .cadenceStepEnd => .office
  | .pushbuttonPress => .office
  | .pushbuttonRelease => .office
  | .portCByteReceived _ => .whole

/-- The ports whose receiver, exchange and response a command or event concerns: the port its frame or byte arrives on, the
port of a select line, and all three for the power-on reset. -/
def linkPorts : Instr → List LinkPort
  | .powerOnReset => [.a, .b, .c]
  | .shelfRestart p => [p]
  | .lineSetupShelfForm p .. => [p]
  | .lineSetupLineForm p .. => [p]
  | .cableExpectShelfForm p .. => [p]
  | .cableExpectPortForm p .. => [p]
  | .groupSetupConfigureForm p .. => [p]
  | .groupSetupRemoveForm p .. => [p]
  | .groupServiceIn p .. => [p]
  | .groupServiceOut p .. => [p]
  | .candidateSetup p .. => [p]
  | .clockSetup p .. => [p]
  | .severitySetup p .. => [p]
  | .cadenceLoadStepForm p .. => [p]
  | .cadenceLoadDescriptorForm p .. => [p]
  | .queueSetup p .. => [p]
  | .timeSet p .. => [p]
  | .protectionRequest p .. => [p]
  | .protectionRequestClear p .. => [p]
  | .clockRequest p .. => [p]
  | .candidateLockout p .. => [p]
  | .cableMove p .. => [p]
  | .cableMoveCancel p .. => [p]
  | .locateOn p .. => [p]
  | .locateOff p .. => [p]
  | .alarmAcknowledgeIndex p .. => [p]
  | .alarmAcknowledgeSeverity p .. => [p]
  | .alarmAcknowledgeAll p => [p]
  | .alarmCutoff p => [p]
  | .readEvents p .. => [p]
  | .readLine p .. => [p]
  | .readCable p .. => [p]
  | .readGroup p .. => [p]
  | .readClock p => [p]
  | .readCandidate p .. => [p]
  | .readAlarms p .. => [p]
  | .readOffice p .. => [p]
  | .badFrame p .. => [p]
  | .selectAssert q => [q.link]
  | .selectRelease q => [q.link]
  | .uartError => [.c]
  | .frameGapTimeout => [.c]
  | .quietPeriodEnd => [.c]
  | .responseSent => [.c]
  | .tick1ms .. => []
  | .tick100ms => []
  | .tick1s => []
  | .excClear .. => []
  | .integratedRaise .. => []
  | .integratedClear .. => []
  | .connectorPresenceAccepted .. => []
  | .scanStart => []
  | .inboundRecord .. => []
  | .pollSlotExpiry => []
  | .tagReadResult .. => []
  | .tagReadFailure .. => []
  | .moveWindowExpiry .. => []
  | .locateTimerExpiry .. => []
  | .moveOpenedNotice .. => []
  | .moveClosedNotice .. => []
  | .crossedConditionChange .. => []
  | .lineSummaryChange .. => []
  | .holdOffExpiry .. => []
  | .restoreWaitExpiry .. => []
  | .agreementWaitExpiry .. => []
  | .trialWaitExpiry .. => []
  | .selectionOffer .. => []
  | .lineDefectChange .. => []
  | .cablingStateOffer .. => []
  | .activityWindowExpiry .. => []
  | .gateStartEdge .. => []
  | .gateComplete .. => []
  | .candidateOffer .. => []
  | .resolvedLineOffer .. => []
  | .qOffer .. => []
  | .holdoverAgeLimit => []
  | .steerFrameStart => []
  | .alarmConditionRaise .. => []
  | .alarmConditionClear .. => []
  | .coverageChange .. => []
  | .officeOffer .. => []
  | .chirpRequest .. => []
  | .cadenceStepEnd => []
  | .pushbuttonPress => []
  | .pushbuttonRelease => []
  | .portCByteReceived _ => [.c]

/-! ## What holds at every moment -/

/-- R163, R164: a queue holds no more than its capacity, and its service request is asserted exactly while its depth reaches
the threshold or it holds an urgent event. -/
def EventQueue.Sound (cap : Nat) (q : EventQueue) : Prop :=
  q.events.length ≤ cap ∧ q.srq = (decide (q.threshold ≤ q.events.length) || q.events.any (·.body.urgent))

/-- R163, R164: the three queues are sound, with capacities 64, 64 and 16. -/
def Links.Sound (k : Links) : Prop := k.queueA.Sound 64 ∧ k.queueB.Sound 64 ∧ k.queueC.Sound 16

/-- R112, R113: S stays within −32,767 to +32,767 and H within −8,388,352 to +8,388,352; the free-run word, which S takes in
FREE_RUN, lies in the range of S (R104). -/
def Clock.Bounded (k : Clock) : Prop :=
  k.steer.natAbs ≤ 32767 ∧ k.average.natAbs ≤ 8388352 ∧ k.settings.freeRun.natAbs ≤ 32767

/-- R95: the last offset of every candidate lies within −32,767 to +32,767. -/
def RefMonitor.OffsetsBounded (r : RefMonitor) : Prop := ∀ c : CandIx, (r.cands.get c).lastQ.natAbs ≤ 32767

/-- R124, R131: the table holds at most 48 ordinary entries, no two for one type on one object, and every ACTIVE entry has the
severity and the service-affecting flag of the present coverage. -/
def AlarmTable.Sound (t : AlarmTable) : Prop :=
  t.entries.length ≤ 48 ∧ (t.entries.map (·.alarm)).Nodup ∧
  ∀ e ∈ t.entries, e.active = true → e.severity = t.gradeOf e.alarm ∧ e.sa = t.saFor e.alarm

/-- R139: each relay is on exactly while an ACTIVE entry has its severity. -/
def State.RelaysAgree (s : State) : Prop :=
  (s.office.relayCrit = true ↔ .critical ∈ s.alarms.activeSeverities) ∧
  (s.office.relayMaj = true ↔ .major ∈ s.alarms.activeSeverities) ∧
  (s.office.relayMin = true ↔ .minor ∈ s.alarms.activeSeverities)

/-- R103: the loop is in ACQUIRING or LOCKED exactly while a candidate is selected, that candidate is eligible, and every
eligible candidate is QUALIFIED. -/
def State.ClockFollows (s : State) : Prop :=
  (∀ c : CandIx, (s.cand c).eligible = true → (s.cand c).state = .qualified) ∧
  (s.clock.loop = .acquiring ∨ s.clock.loop = .locked ↔ s.clock.selected.isSome = true) ∧
  (∀ c : CandIx, s.clock.selected = some c → (s.cand c).eligible = true)

/-- R78: in an in-service 1:N group the selected channel is nonzero only while it equals the channel of the effective request
and the accepted far-end bridged channel, and the effective class is not TRIAL. -/
def Group.SelectsBridged (x : Group) : Prop :=
  x.inService = true → x.arch = .oneToN → x.selected ≠ 0 →
    x.selected = x.eff.chan ∧ x.farBridge = x.selected ∧ x.eff.cls ≠ .trial

/-- R78, for every configured group. -/
def Protection.SelectsBridged (p : Protection) : Prop :=
  ∀ (g : GroupIx) (x : Group), p.groups.get g = some x → x.SelectsBridged

/-- R25: the out-of-turn list holds no port twice. -/
def Cabling.TurnSound (cb : Cabling) : Prop := cb.outOfTurn.Nodup

/-- R22: no cord identifier is held twice, as a PLANNED expectation or as a pending one. -/
def Cabling.CordsUnique (cb : Cabling) : Prop :=
  (∀ (l q : LineIx) (id : Word32), l ≠ q → (cb.ports.get l).holds id = true → (cb.ports.get q).holds id = false) ∧
  (∀ (l : LineIx) (id : Word32), (cb.ports.get l).holdsExpected id = true → (cb.ports.get l).holdsPending id = false)

/-- R44: a line is a member of at most one group, and appears once in it. -/
def Protection.MembersApart (p : Protection) : Prop :=
  (∀ (g : GroupIx) (x : Group), p.groups.get g = some x → (x.prot :: x.working).Nodup) ∧
  (∀ (g h : GroupIx) (x y : Group), g ≠ h → p.groups.get g = some x → p.groups.get h = some y →
    ∀ l : LineIx, x.member l = true → y.member l = false)

/-- R65, R66: the coverage published for every line is the coverage of R65. -/
def Protection.CoverageCurrent (p : Protection) : Prop := ∀ l : LineIx, p.covered.get l = p.coverage l

/-- R50, R79: the outbound fields of a line are those of its in-service group, and HOLD, HOLD and the IDLE word where it is in
none. -/
def Protection.OutCurrent (p : Protection) : Prop :=
  (∀ (g : GroupIx) (x : Group), p.groups.get g = some x → x.inService = true →
    ∀ l : LineIx, x.member l = true → p.out.get l = x.cmdFor l) ∧
  (∀ l : LineIx, (∀ (g : GroupIx) (x : Group), p.groups.get g = some x → x.inService = true → x.member l = false) →
    p.out.get l = ⟨.hold, .hold, idleWord⟩)

/-- R57, R58: a CABLING request stands in the list of an in-service group exactly while a move is open on its member line, but
for the time until the "move closed" notice of a shelf restart is taken (R165). -/
def State.MovesFollowed (s : State) : Prop :=
  ∀ (g : GroupIx) (x : Group) (l : LineIx), s.group g = some x → x.inService = true → x.member l = true →
    let stands := ∃ e ∈ x.list, e.cablingOf l = true
    ((s.port l).move.isSome = true → stands ∧ Instr.moveClosedNotice l ∉ s.due) ∧
    (stands → (s.port l).move.isSome = true ∨ Instr.moveClosedNotice l ∈ s.due)

/-- R165: the hand-overs that are due are those of a shelf restart, and a "move closed" notice is due for no port with a move
open. -/
def State.DueSound (s : State) : Prop :=
  (∀ i ∈ s.due, (∃ l, i = .moveClosedNotice l) ∨ (∃ g, i = .crossedConditionChange g) ∨ ∃ l, i = .cablingStateOffer l) ∧
  ∀ l : LineIx, (s.port l).move.isSome = true → Instr.moveClosedNotice l ∉ s.due

/-- R51: the classes an AUTOMATIC entry may have. -/
def automaticClasses : List ReqClass := [.protFail, .signalFail, .signalDegrade, .restoreWait, .holdSwitched]

/-- R51, R53: a request list holds at most one external request and at most one CABLING request for each line; every AUTOMATIC
entry has one of the classes R51 names; no external MANUAL or TRIAL stands in it while an automatic request of higher class wins;
and it holds RESTORE_WAIT or HOLD_SWITCHED only while such an entry wins. -/
def State.ListSound (s : State) (x : Group) : Prop :=
  (x.list.filter (·.external)).length ≤ 1 ∧
  (∀ l : LineIx, (x.list.filter (ReqEntry.cablingOf l)).length ≤ 1) ∧
  (∀ e ∈ x.list, e.source = .automatic → e.cls ∈ automaticClasses) ∧
  (∀ w : ReqEntry, s.winningEntry x = some w → w.source = .automatic →
    ∀ e ∈ x.list, e.weakExternal = true → ReqClass.code w.cls ≤ ReqClass.code e.cls) ∧
  (∀ e ∈ x.list, e.keeps = true → ∃ w : ReqEntry, s.winningEntry x = some w ∧ w.keeps = true)

/-- R44, R51, R53: the groups share no line, and the list of every in-service group is sound. -/
def State.ListsSound (s : State) : Prop :=
  s.prot.MembersApart ∧ ∀ (g : GroupIx) (x : Group), s.group g = some x → x.inService = true → s.ListSound x

end Sys2Proof.Machine
end

