-- ==== Sys2Proof/WellFormed.lean ====
section
/-!
DEFINITION. WellFormed.lean: which terms of `Instr` name an event that can reach the part. Parameter bytes are not checked
here: a command with parameters out of range is answered with a status by the block that owns it (R153, R169).
-/
namespace Sys2Proof

open Machine

/-- A frame that is complete and that R153 refuses before any block sees it. -/
def refusedFrame (p : LinkPort) (frame : List Byte) : Bool :=
  frameComplete frame &&
    match parseFrame p frame with
    | .ok _ => false
    | .error _ => true

/-- The well-formed commands. Each check names its rule:
* CADENCE LOAD, step form: the steps fit a frame of 64 bytes (R153, 11.5);
* PROTECTION REQUEST: kind 0, CLEAR, is the row of its own (R158);
* READ OFFICE: a part other than STEPS carries no first index (R169);
* BAD FRAME: the frame is one that R153 refuses;
* TAG READ RESULT: the check byte is correct (R26);
* RESOLVED LINE OFFER: a station candidate has no resolved line (R89);
* Q OFFER: an offset lies within −32,767 to +32,767 (R95);
* ALARM CONDITION CLEAR: the transient type is never cleared (R128);
* OFFICE OFFER: an offer holds a change (R136). -/
def wellFormed : Instr → Bool
  | .powerOnReset => true
  | .shelfRestart _ => true
  | .lineSetupShelfForm .. => true
  | .lineSetupLineForm .. => true
  | .cableExpectShelfForm .. => true
  | .cableExpectPortForm .. => true
  | .groupSetupConfigureForm .. => true
  | .groupSetupRemoveForm .. => true
  | .groupServiceIn .. => true
  | .groupServiceOut .. => true
  | .candidateSetup .. => true
  | .clockSetup .. => true
  | .severitySetup .. => true
  | .cadenceLoadStepForm _ _ steps => decide (steps.length ≤ 19)
  | .cadenceLoadDescriptorForm .. => true
  | .queueSetup .. => true
  | .timeSet .. => true
  | .protectionRequest _ _ kind _ => kind != 0#8
  | .protectionRequestClear .. => true
  | .clockRequest .. => true
  | .candidateLockout .. => true
  | .cableMove .. => true
  | .cableMoveCancel .. => true
  | .locateOn .. => true
  | .locateOff .. => true
  | .alarmAcknowledgeIndex .. => true
  | .alarmAcknowledgeSeverity .. => true
  | .alarmAcknowledgeAll _ => true
  | .alarmCutoff _ => true
  | .readEvents .. => true
  | .readLine .. => true
  | .readCable .. => true
  | .readGroup .. => true
  | .readClock _ => true
  | .readCandidate .. => true
  | .readAlarms .. => true
  | .readOffice _ part first => part == 2#8 || first == 0#8
  | .badFrame p frame => refusedFrame p frame
  | .selectAssert _ => true
  | .selectRelease _ => true
  | .uartError => true
  | .frameGapTimeout => true
  | .quietPeriodEnd => true
  | .responseSent => true
  | .tick1ms _ => true
  | .tick100ms => true
  | .tick1s => true
  | .excClear _ => true
  | .integratedRaise .. => true
  | .integratedClear .. => true
  | .connectorPresenceAccepted _ => true
  | .scanStart => true
  | .inboundRecord .. => true
  | .pollSlotExpiry => true
  | .tagReadResult tag => goodTag tag
  | .tagReadFailure _ => true
  | .moveWindowExpiry _ => true
  | .locateTimerExpiry _ => true
  | .moveOpenedNotice _ => true
  | .moveClosedNotice _ => true
  | .crossedConditionChange _ => true
  | .lineSummaryChange _ => true
  | .holdOffExpiry .. => true
  | .restoreWaitExpiry _ => true
  | .agreementWaitExpiry _ => true
  | .trialWaitExpiry _ => true
  | .selectionOffer _ => true
  | .lineDefectChange _ => true
  | .cablingStateOffer _ => true
  | .activityWindowExpiry _ => true
  | .gateStartEdge _ => true
  | .gateComplete .. => true
  | .candidateOffer _ => true
  | .resolvedLineOffer c => decide (2 ≤ c.val)
  | .qOffer _ q => decide (q.natAbs ≤ 32767)
  | .holdoverAgeLimit => true
  | .steerFrameStart => true
  | .alarmConditionRaise _ => true
  | .alarmConditionClear x =>
    match x with
    | .line .moveExpired _ => false
    | _ => true
  | .coverageChange .. => true
  | .officeOffer items => !items.isEmpty
  | .chirpRequest _ => true
  | .cadenceStepEnd => true
  | .pushbuttonPress => true
  | .pushbuttonRelease => true
  | .portCByteReceived _ => true

end Sys2Proof
end

