-- ==== Sys2Proof/Certificates/Slice0/Obligations.lean ====
section
/-!
DEFINITION. Obligations.lean: the statements for the provers. Each `Obligations.<Name>` is a proposition about the model;
OBLIGATIONS.json gives the rules each one states. A status, a result or a state is named as the manual names it; `Exactly` gives
the whole next state, `Does` and `Answers` a part of it (Safety.lean).
-/

open Sys2Proof Sys2Proof.Machine

/-! ## The step -/

/-- A step takes the command at the front of the queue and runs it with the queue's rest. -/
def Obligations.StepRunsFront : Prop :=
  ∀ (c : Instr) (rest : List Instr) (s : State),
    step { s with pending := c :: rest } = exec c { s with pending := rest }

/-- With no command waiting, a step takes the oldest hand-over of a shelf restart that is still due, and idles when none is.
The model's choice (log entry 8).
A timed event that the last tick took with it is not taken a second time: its row then only notes that it is past. The model's
choice (log entry 6).
A gate that ends where none is in flight is no more than an edge of the input. The model's choice (log entry 19). -/
def Obligations.OwnSteps : Prop :=
  (∀ s : State, s.pending = [] →
     (s.due = [] → step s = .next s) ∧
     (∀ h r, s.due = h :: r → step s = exec h { s with due := r })) ∧
  (∀ (i : Instr) (s : State),
     (i ∈ [.scanStart, .pollSlotExpiry, .tick100ms, .tick1s] ∨ ∃ g, i = .agreementWaitExpiry g) →
     i ∈ s.fired → exec i s = .next { s with fired := s.fired.erase i }) ∧
  (∀ (c : CandIx) (count : Word32) (s : State), (s.cand c).gate = false →
     DoesAs (.gateComplete c count) s (.gateStartEdge c) s)

/-- Every command and event completes in every state, and none of them touches the commands that wait. -/
def Obligations.EveryCommandCompletes : Prop :=
  ∀ (i : Instr) (s : State), Does i s fun t => t.pending = s.pending

/-- The state right after a power-on reset: the values the manual states for every block.
POWER_ON_RESET brings the reset state from every state. Keeping the queue of waiting commands and the counter of free
values is the model's choice (log entry 9). -/
def Obligations.PowerOnReset : Prop :=
  (State.reset.scan.interval = 2 ∧ State.reset.scan.count = 0 ∧
   (∀ l, (State.reset.line l).presence = .unknown ∧ (State.reset.line l).badCount = 0 ∧
     (State.reset.line l).raw = PerCond.all false ∧ (State.reset.line l).soak = PerCond.all ⟨0, 0, false⟩ ∧
     (State.reset.line l).settings = ⟨false, 25, 10, 2000, 200, 500, 50⟩ ∧ (State.reset.line l).connAccepted = false ∧
     (State.reset.line l).out.bridge = .hold ∧ (State.reset.line l).out.select = .hold) ∧
   (∀ l, (State.reset.port l).expect = .unplanned ∧ (State.reset.port l).state = .unplanned ∧
     (State.reset.port l).move = none ∧ (State.reset.port l).locate = none) ∧
   State.reset.cabling.pollSlot = 250 ∧ State.reset.cabling.roundRobin = 15 ∧
   (∀ g, State.reset.group g = none) ∧ (∀ l, State.reset.prot.covered.get l = false) ∧
   State.reset.time.seconds = 0#32 ∧
   (∀ c, (State.reset.cand c).enabled = false ∧ (State.reset.cand c).state = .unused ∧ (State.reset.cand c).lastQ = 0) ∧
   State.reset.clock.loop = .freeRun ∧ State.reset.clock.steer = 0 ∧ State.reset.clock.average = 0 ∧
   State.reset.clock.lastLocked = 0 ∧ State.reset.clock.slot = .none ∧
   State.reset.alarms.entries = [] ∧ State.reset.alarms.fixed.state = .idle ∧ State.reset.alarms.fixed.severity = .major ∧
   (∀ l, State.reset.alarms.grading.get l = false) ∧
   State.reset.office.relayCrit = false ∧ State.reset.office.relayMaj = false ∧ State.reset.office.relayMin = false ∧
   State.reset.office.aco = none ∧ State.reset.office.playing = none ∧ State.reset.office.buttonHigh = true ∧
   (∀ p, (State.reset.links.queue p).events = [⟨0#32, .partStart false⟩] ∧ (State.reset.links.queue p).overrun = false ∧
     (State.reset.links.queue p).threshold = 1 ∧ (State.reset.links.queue p).srq = true ∧ State.reset.response p = none) ∧
   State.reset.links.receiver = .waiting) ∧
  (∀ s : State, exec .powerOnReset s = .next { State.reset with free := s.free, pending := s.pending })

/-! ## What holds at every moment -/

/-- R163, R164: every step keeps each event queue within its capacity, and each service request asserted exactly while the
depth reaches the threshold or an urgent event is held. -/
def Obligations.QueuesSoundKept : Prop := ∀ s t : State, s.links.Sound → step s = .next t → t.links.Sound

/-- R112, R113: every step keeps S within −32,767 to +32,767 and H within −8,388,352 to +8,388,352.
R95: every step keeps the last offset of every candidate within −32,767 to +32,767. -/
def Obligations.ClockBoundedKept : Prop := 
  (∀ s t : State, s.clock.Bounded → step s = .next t → t.clock.Bounded) ∧
  (∀ s t : State, s.ref.OffsetsBounded → step s = .next t → t.ref.OffsetsBounded)

/-- R103: every step keeps the loop in ACQUIRING or LOCKED exactly while a candidate is selected, with that candidate eligible
and QUALIFIED. -/
def Obligations.ClockFollowsKept : Prop := ∀ s t : State, s.ClockFollows → step s = .next t → t.ClockFollows

/-- R124, R131: every step keeps at most 48 ordinary entries, no two for one type on one object, each ACTIVE one graded by the
present coverage of its line.
R139: over such a table, every step keeps each relay on exactly while an ACTIVE entry has its severity. -/
def Obligations.AlarmTableSoundKept : Prop := 
  (∀ s t : State, s.alarms.Sound → step s = .next t → t.alarms.Sound) ∧
  (∀ s t : State, s.alarms.Sound → s.RelaysAgree → step s = .next t → t.RelaysAgree)

/-- R78: every step keeps the selected channel of an in-service 1:N group at 0, or equal to the channel of the effective
request and to the accepted far-end bridged channel, with an effective class other than TRIAL. -/
def Obligations.SelectsBridgedKept : Prop := ∀ s t : State, s.prot.SelectsBridged → step s = .next t → t.prot.SelectsBridged

/-- R65, R66: every step keeps the published coverage of every line equal to the coverage that R65 gives.
R50, R79: where no two groups share a line, every step keeps the outbound fields of every line those of its in-service group, and
HOLD with the IDLE word where it is in none. -/
def Obligations.CoverageCurrentKept : Prop :=
  (∀ s t : State, s.prot.CoverageCurrent → step s = .next t → t.prot.CoverageCurrent) ∧
  (∀ s t : State, s.prot.MembersApart → s.prot.OutCurrent → step s = .next t → t.prot.OutCurrent)

/-- R44, R51, R53: every step keeps the groups' lines apart and the request list of every in-service group sound.
The two clauses on hand-overs are the model's choice, not the spec's. Every step keeps the hand-overs that are due those of a shelf
restart (R165), with no "move closed" notice for a port with a move open, because a CABLE MOVE takes a due notice of its port first
(log entry 25). Over such hand-overs and lists, every step keeps a CABLING request in the list of an in-service group exactly while
a move is open on its member line (R57, R58), or its "move closed" notice of a shelf restart is still due; steps that take a notice
of a move from outside, which need not follow a move of the Cabling Verifier, are left out (log entry 30). -/
def Obligations.ListsSoundKept : Prop := 
  (∀ s t : State, s.ListsSound → step s = .next t → t.ListsSound) ∧
  (∀ s t : State, s.DueSound → step s = .next t → t.DueSound) ∧
  (∀ s t : State, s.ListsSound → s.DueSound → s.MovesFollowed →
     (∀ c rest, s.pending = c :: rest → ∀ l, c ≠ .moveOpenedNotice l ∧ c ≠ .moveClosedNotice l) →
     step s = .next t → t.MovesFollowed)

/-- R22, R25: every step keeps each cord identifier held at most once in the map, and the out-of-turn list free of repeats. -/
def Obligations.CablingMapKept : Prop :=
  (∀ s t : State, s.cabling.CordsUnique → step s = .next t → t.cabling.CordsUnique) ∧
  (∀ s t : State, s.cabling.TurnSound → step s = .next t → t.cabling.TurnSound)

/-- All of these hold right after a power-on reset. -/
def Obligations.ResetSound : Prop :=
  State.reset.links.Sound ∧ State.reset.clock.Bounded ∧ State.reset.ref.OffsetsBounded ∧ State.reset.ClockFollows ∧
  State.reset.alarms.Sound ∧ State.reset.RelaysAgree ∧ State.reset.prot.SelectsBridged ∧ State.reset.prot.CoverageCurrent ∧ State.reset.prot.OutCurrent ∧
  State.reset.ListsSound ∧ State.reset.DueSound ∧ State.reset.MovesFollowed ∧
  State.reset.cabling.CordsUnique ∧ State.reset.cabling.TurnSound

/-! ## Frames, ports and queues (Section 9) -/

/-- Every command's frame, as Section 11 lays it out, is read as that command, with every parameter at every value, on each
port that may use it. A response is sent as the start byte, its length, its status, its results and a check byte that brings
the CRC-8 over the frame to 0.
R167 and 11.2: a slot of the scan sends the codes of the bridge and the select command in byte 0, the lamp code and the quality
code in byte 1, the protection channel word, high byte first, in bytes 2 and 3, a check byte likewise, and two zero bytes.
R161 and 11.6: an event is sent as its kind code, its object's class and index, its time, high byte first, and its detail, with the
detail bytes left unused 0: 6 bytes for a RESYNC and 12 for every other kind, as READ EVENTS counts them. -/
def Obligations.FrameReadAsSent : Prop :=
  (∀ (i : Instr) (p : LinkPort) (f : List Byte), wellFormed i = true → commandFrame i = some (p, f) →
     (p = .c → craftMay i = true) → frameComplete f = true ∧ parseFrame p f = .ok i) ∧
  (∀ r : Response, ∃ check : Byte,
     r.sent = [0xA5#8, BitVec.ofNat 8 (r.results.length + 3), Status.code r.status] ++ r.results ++ [check] ∧
     crc8 (r.sent.drop 1) = 0#8) ∧
  (∀ o : OutRecord, o.slot.length = 7 ∧ crc8 (o.slot.take 5) = 0#8 ∧ o.slot.drop 5 = [0x00#8, 0x00#8] ∧
     ∃ b₀ b₁ : Byte, o.slot.take 4 = [b₀, b₁, o.word.extractLsb' 8 8, o.word.extractLsb' 0 8] ∧
       b₀.toNat = 16 * (match o.bridge with | .hold => 0 | .none => 1 | .channel k => k.val + 2) +
         4 * (match o.select with | .hold => 0 | .own => 1 | .protection => 2) ∧
       (o.quality < 16 → b₁.toNat = 32 * (match o.lamp with
         | .off => 0 | .green => 1 | .amber => 2 | .red => 3 | .locateFlash => 4) + 2 * o.quality)) ∧
  (∀ (free : Nat) (e : Event),
     let sent := e.bytes free
     let indexed (o : Object) : Nat := match o with
       | .shelf => 0
       | .line l => 32 * 1 + l.val
       | .group g => 32 * 2 + g.val
       | .cand c => 32 * 3 + (c.val + 1)
     let (kind, object) : Nat × Nat := match e.body with
       | .partStart _ => (1, 0)
       | .resync => (2, 0)
       | .alarmRaised a .. => (3, indexed (alarmObject a))
       | .alarmCleared a .. => (4, indexed (alarmObject a))
       | .alarmSeverity a .. => (5, indexed (alarmObject a))
       | .alarmNotRecorded a .. => (6, indexed (alarmObject (some a)))
       | .protSwitched g .. => (7, indexed (.group g))
       | .protRequest g .. => (8, indexed (.group g))
       | .requestPreempted g .. => (9, indexed (.group g))
       | .clockPreempted .. => (9, 0)
       | .requestClearedByOther g .. => (10, indexed (.group g))
       | .cableState l _ => (11, indexed (.line l))
       | .moveDone l _ => (12, indexed (.line l))
       | .refState c .. => (13, indexed (.cand c))
       | .clockState .. => (14, 0)
       | .acoState .. => (15, 0)
     sent.length = (if e.body = .resync then 6 else 12) ∧ e.body.size = sent.length ∧
     (∃ k o : Byte, k.toNat = kind ∧ o.toNat = object ∧ sent.take 6 = [k, o,
       e.time.extractLsb' 24 8, e.time.extractLsb' 16 8, e.time.extractLsb' 8 8, e.time.extractLsb' 0 8]) ∧
     ∀ b ∈ sent.drop (6 + (e.body.detail free).length), b = 0x00#8)

/-- What the bytes of a frame do on a port. A command's row does, in every state, what the bytes of its frame do, and a frame that
passes the checks, on a port that waits for one, does what its command's row does: the model's choice (log entries 7 and 27).
R150, R152: a byte that completes a frame has it checked and taken or refused; one that does not is kept. Bytes on a controller
port whose select is released, or whose frame has been answered, are ignored. -/
def Obligations.FrameRunsCommand : Prop :=
  (∀ (i : Instr) (p : LinkPort) (f : List Byte) (s : State), wellFormed i = true → commandFrame i = some (p, f) →
     exec i s = exec (.badFrame p f) s) ∧
  (∀ (i : Instr) (p : LinkPort) (f : List Byte) (s : State), s.links.ready p = true → frameComplete f = true →
     parseFrame p f = .ok i → exec (.badFrame p f) s = exec i s) ∧
  (∀ (i : Instr) (p : LinkPort) (f : List Byte) (u : State), parseFrame p f = .ok i → u.links.ready p = true →
     exec i u = .next (u.takeCommand p (frameCommand p f))) ∧
  (∀ (bs : List Byte) (b : Byte) (s : State), s.links.receiver = .receiving bs → frameComplete (bs ++ [b]) = true →
     exec (.portCByteReceived b) s = .next (s.takeCommand .c (frameCommand .c (bs ++ [b]))) ∧
     (∀ st, parseFrame .c (bs ++ [b]) = .error st → Exactly (.portCByteReceived b) .c ⟨st, []⟩ s s)) ∧
  (∀ (q : CtrlPort) (bs : List Byte) (b : Byte) (s : State), s.links.exchange q = .listening bs →
     (frameComplete (bs ++ [b]) = true → exec (.badFrame q.link [b]) s =
       .next (s.takeCommand q.link (frameCommand q.link (bs ++ [b])))) ∧
     (frameComplete (bs ++ [b]) = false → Does (.badFrame q.link [b]) s fun t =>
       t.links.exchange q = .listening (bs ++ [b]) ∧ t.response q.link = s.response q.link ∧
       Keeps [.time, .scan, .lines, .cabling, .prot, .ref, .clock, .alarms, .office, .due, .pending] s t)) ∧
  (∀ (q : CtrlPort) (f : List Byte) (s : State), s.links.exchange q = .released ∨ s.links.exchange q = .answered →
     exec (.badFrame q.link f) s = .next s) ∧
  (∀ (p : LinkPort) (b : Byte) (f : List Byte) (s : State),
     exec (.badFrame p (b :: f)) s = (match exec (.badFrame p [b]) s with
       | .next t => exec (.badFrame p f) t
       | o => o) ∧
     exec (.badFrame p []) s = .next s ∧ exec (.badFrame .c [b]) s = exec (.portCByteReceived b) s)

/-- R153, steps 1 to 5: the first test that fails gives the status, and the frame has no other effect; a flag or form byte that
tells two commands apart and holds no value of theirs gives OUT_OF_RANGE (R169; that it does so in reading the frame is the model's
choice, log entry 28).
R156: a command that Port C may not use is refused with NOT_PERMITTED and does nothing else. Of the PROTECTION REQUESTs
from Port C, one of kind FORCE, MANUAL or TRIAL for a group 0 to 7 is refused likewise (R54). -/
def Obligations.RefusedByTheLink : Prop :=
  (∀ (p : LinkPort) (len code : Byte) (params : List Byte) (check : Byte) (s : State), s.links.ready p = true →
     let frame := len :: code :: params ++ [check]
     let answers (st : Status) : Prop := Exactly (.badFrame p frame) p ⟨st, []⟩ s s
     let named := (1 ≤ code.toNat ∧ code.toNat ≤ 0x0A) ∨ (0x20 ≤ code.toNat ∧ code.toNat ≤ 0x27) ∨ code = 0x2F#8 ∨
       (0x40 ≤ code.toNat ∧ code.toNat ≤ 0x47)
     let permitted := p ≠ .c ∨ ¬ ((1 ≤ code.toNat ∧ code.toNat ≤ 0x0A) ∨ code = 0x21#8 ∨ code = 0x22#8 ∨ code = 0x2F#8)
     (¬ (3 ≤ len.toNat ∧ len.toNat ≤ 64) → Exactly (.badFrame p [len]) p ⟨.badLength, []⟩ s s) ∧
     (3 ≤ len.toNat → len.toNat ≤ 64 → frame.length = len.toNat →
       (crc8 (len :: code :: params) ≠ check → answers .checkFail) ∧
       (crc8 (len :: code :: params) = check →
         (¬ named → answers .unknownCommand) ∧ (named → ¬ permitted → answers .notPermitted) ∧
         (permitted →
           (∀ counts, paramCounts code.toNat = some counts → params.length ∉ counts → answers .badLength) ∧
           (code = 0x08#8 → params = [] → answers .badLength) ∧
           (∀ form rest, code = 0x08#8 → params = form :: rest →
             (form = 0#8 → (∀ first count steps, rest = first :: count :: steps → steps.length ≠ 3 * count.toNat) →
               answers .badLength) ∧
             (form = 1#8 → rest.length ≠ 6 → answers .badLength) ∧ (2 ≤ form.toNat → answers .outOfRange)) ∧
           (code = 0x47#8 → (∀ part, params = [part] → part = 2#8) → (∀ first, params ≠ [2#8, first]) → answers .badLength) ∧
           (∀ g on, code = 0x04#8 → params = [g, on] → 2 ≤ on.toNat → answers .outOfRange) ∧
           (∀ port on d1 d0, code = 0x25#8 → params = [port, on, d1, d0] → 2 ≤ on.toNat → answers .outOfRange) ∧
           (∀ form x, code = 0x26#8 → params = [form, x] → 3 ≤ form.toNat → answers .outOfRange))))) ∧
  ((∀ (i : Instr) (f : List Byte) (s : State), s.links.ready .c = true → commandFrame i = some (.c, f) →
     craftMay i = false → Exactly i .c ⟨.notPermitted, []⟩ s s) ∧
   (∀ (group kind channel : Byte) (s : State), s.links.ready .c = true → group.toNat < 8 → kind.toNat ∈ [13, 10, 8] →
     Exactly (.protectionRequest .c group kind channel) .c ⟨.notPermitted, []⟩ s s))

/-- R155: a command on one port, or an event that is no port's, leaves the receiver, the exchange and the response of every
other port as they are. -/
def Obligations.OtherPortsUntouched : Prop :=
  ∀ (i : Instr) (p : LinkPort) (s t : State), p ∉ linkPorts i → exec i s = .next t → LinkSame s t p

/-- R150, R151: select begins an exchange and its release ends it; with it goes a response not yet read.
R152: how the Port C receiver moves between WAITING, RECEIVING, ANSWERING and SKIPPING. -/
def Obligations.ExchangesAndReceiver : Prop :=
  (∀ s : State,
     exec (.selectAssert .a) s = .next { s with links := { s.links with exchangeA := .listening [], responseA := none } } ∧
     exec (.selectAssert .b) s = .next { s with links := { s.links with exchangeB := .listening [], responseB := none } } ∧
     exec (.selectRelease .a) s = .next { s with links := { s.links with exchangeA := .released, responseA := none } } ∧
     exec (.selectRelease .b) s = .next { s with links := { s.links with exchangeB := .released, responseB := none } }) ∧
  (∀ (b : Byte) (s : State),
     let goes (i : Instr) (r : Receiver) : Prop := exec i s = .next { s with links := { s.links with receiver := r } }
     (s.links.receiver = .waiting →
       (3 ≤ b.toNat ∧ b.toNat ≤ 64 → goes (.portCByteReceived b) (.receiving [b])) ∧
       (¬ (3 ≤ b.toNat ∧ b.toNat ≤ 64) → Exactly (.portCByteReceived b) .c ⟨.badLength, []⟩ s s) ∧
       goes .uartError (.skipping true) ∧ goes .frameGapTimeout .waiting ∧ goes .quietPeriodEnd .waiting ∧
       goes .responseSent .waiting) ∧
     (∀ bs, s.links.receiver = .receiving bs →
       (frameComplete (bs ++ [b]) = false → goes (.portCByteReceived b) (.receiving (bs ++ [b]))) ∧
       goes .uartError (.skipping true) ∧ Exactly .frameGapTimeout .c ⟨.checkFail, []⟩ s s ∧
       goes .quietPeriodEnd (.receiving bs) ∧ goes .responseSent (.receiving bs)) ∧
     (∀ d, s.links.receiver = .answering d →
       goes (.portCByteReceived b) (.answering true) ∧ goes .uartError (.answering true) ∧
       goes .frameGapTimeout (.answering d) ∧ goes .quietPeriodEnd (.answering d) ∧
       exec .responseSent s = .next { s with links := { s.links with
         responseC := none, receiver := if d then .skipping false else .waiting } }) ∧
     (∀ owed, s.links.receiver = .skipping owed →
       goes (.portCByteReceived b) (.skipping owed) ∧ goes .uartError (.skipping owed) ∧
       goes .frameGapTimeout (.skipping owed) ∧ goes .responseSent (.skipping owed) ∧
       (owed = true → Exactly .quietPeriodEnd .c ⟨.checkFail, []⟩ s s) ∧ (owed = false → goes .quietPeriodEnd .waiting)))

/-- R162, R163: an event reaches the queues of the ports entitled to it: it is appended at the end of a queue with room, and a
full queue discards it and sets its overrun flag. -/
def Obligations.EventRouting : Prop :=
  ∀ (b : EventBody) (p : LinkPort) (s : State),
    let entitled : Prop := match b.kind with
      | 7 => p ≠ .c
      | 8 => p ≠ .c
      | 13 => p ≠ .c
      | 14 => p ≠ .c
      | 2 => False
      | 9 => (match b with
        | .requestPreempted _ i .. => p = i
        | .clockPreempted i .. => p = i
        | _ => False)
      | 10 => (match b with
        | .requestClearedByOther _ i .. => p = i
        | _ => False)
      | _ => True
    let q := s.links.queue p
    let cap := if p = .c then 16 else 64
    let u := (s.issue b).links.queue p
    (¬ entitled → u = q) ∧
    (entitled → q.events.length < cap → u.events = q.events ++ [⟨s.time.seconds, b⟩] ∧ u.overrun = q.overrun) ∧
    (entitled → cap ≤ q.events.length → u.events = q.events ∧ u.overrun = true ∧ u.srq = q.srq)

/-- R160, R163, R164: READ EVENTS removes events from the head of its port's own queue while fewer than n have been removed and
the next record fits 58 bytes; it answers depth, overrun flag, number and records; a RESYNC follows an overrun; the service
request is formed again. An n above 8 is refused. That an n of 0 answers the number too, as 0, where R160 says the depth and the
flag only, is the model's choice (log entry 34). -/
def Obligations.ReadEventsTakes : Prop :=
  ∀ (p : LinkPort) (n : Byte) (s : State), s.links.ready p = true →
    let q := s.links.queue p
    (8 < n.toNat → Exactly (.readEvents p n) p ⟨.outOfRange, []⟩ s s) ∧
    (n.toNat ≤ 8 → ∃ k : Nat,
      k ≤ n.toNat ∧ k ≤ q.events.length ∧ recordBytes (q.events.take k) ≤ 58 ∧
      (k < n.toNat → k < q.events.length → 58 < recordBytes (q.events.take (k + 1))) ∧
      let resync : List Event := if k ≠ 0 ∧ q.overrun = true then [⟨s.time.seconds, .resync⟩] else []
      let left := q.events.drop k ++ resync
      let after : EventQueue := ⟨left, q.overrun && k == 0, q.threshold,
        decide (q.threshold ≤ left.length) || left.any (·.body.urgent)⟩
      Exactly (.readEvents p n) p
        ⟨.ok, [BitVec.ofNat 8 q.events.length, if q.overrun then 1#8 else 0#8, BitVec.ofNat 8 k] ++
          (q.events.take k).flatMap (Event.bytes s.free)⟩
        s { s with links := s.links.setQueue p after })

/-- R164: QUEUE SETUP sets the threshold of any of the three ports to 1, 4, 16 or 32, with 32 clamped to 16 for Port C, and
forms that port's service request again; any other port or threshold is refused. -/
def Obligations.QueueSetupTakes : Prop :=
  ∀ (c : CtrlPort) (port threshold : Byte) (s : State), s.links.ready c.link = true →
    (∀ r : LinkPort, port.toNat = LinkPort.code r → threshold.toNat ∈ [1, 4, 16, 32] →
      let v := if r = .c ∧ threshold.toNat = 32 then 16 else threshold.toNat
      let q := s.links.queue r
      let after : EventQueue := ⟨q.events, q.overrun, v, decide (v ≤ q.events.length) || q.events.any (·.body.urgent)⟩
      Exactly (.queueSetup c.link port threshold) c.link ⟨takenStatus (v ≠ threshold.toNat), []⟩ s
        { s with links := s.links.setQueue r after }) ∧
    (2 < port.toNat ∨ threshold.toNat ∉ [1, 4, 16, 32] →
      Exactly (.queueSetup c.link port threshold) c.link ⟨.outOfRange, []⟩ s s)

/-- The frame of every command and event, by the block that owns it: what it leaves as it is, where no frame is under way on the
command's port. A read of the Link Ports, a select line and a craft event change nothing but the ports; an office row nothing but
the Office Alarm Unit and the ports; an alarm row besides these the Alarm Table; a clock row besides these the Clock Controller;
and so on up the order in which the blocks act on one another. -/
def Obligations.FamiliesKeepApart : Prop :=
  ∀ (i : Instr) (s t : State), (∀ p f, commandFrame i = some (p, f) → s.links.midFrame p = false) → exec i s = .next t →
    Keeps (match owner i with
    | .links => [.time, .scan, .lines, .cabling, .prot, .ref, .clock, .alarms, .office, .due, .pending]
    | .office => [.time, .scan, .lines, .cabling, .prot, .ref, .clock, .alarms, .due, .pending]
    | .alarms => [.time, .scan, .lines, .cabling, .prot, .ref, .clock, .due, .pending]
    | .clock => [.time, .scan, .lines, .cabling, .prot, .ref, .due, .pending]
    | .reference => [.time, .scan, .lines, .cabling, .prot, .due, .pending]
    | .protection => [.time, .scan, .lines, .cabling, .due, .pending]
    | .cabling => [.time, .scan, .lines, .pending]
    | .lines => [.time, .due, .pending]
    | .timeBase => [.due, .pending]
    | .whole => [.pending]) s t

/-- R20, R41, R67, R84, R101, R120, R137, R148, R159: the reads. A read of something that is not there is refused, and any other
read answers with its results; neither changes anything but the answer. The first results are the ones named here; their places and codes follow log entries 5,
14 and 34, which are the model's choice. -/
def Obligations.ReadsReport : Prop :=
  ∀ (p : LinkPort) (n part first : Byte) (s : State), s.links.ready p = true →
    let reads (i : Instr) (head : List Byte) : Prop := ∃ rest, Exactly i p ⟨.ok, head ++ rest⟩ s s
    let refused (i : Instr) : Prop := Exactly i p ⟨.outOfRange, []⟩ s s
    (16 ≤ n.toNat → refused (.readLine p n) ∧ refused (.readCable p n)) ∧
    (∀ l : LineIx, n.toNat = l.val →
      reads (.readLine p n) [if (s.line l).settings.equipped then 0x80#8 else 0x00#8,
        BitVec.ofNat 8 (s.line l).settings.soakRaise, BitVec.ofNat 8 (s.line l).settings.soakClear] ∧
      reads (.readCable p n) (match (s.port l).expect with
        | .unplanned => [0x00#8]
        | .vacant => [0x10#8]
        | .planned d => [0x20#8, d.id.extractLsb' 24 8, d.id.extractLsb' 16 8, d.id.extractLsb' 8 8, d.id.extractLsb' 0 8,
            if d.fin = .b then 0x80#8 else 0x00#8, BitVec.ofNat 8 (16 * d.cls)])) ∧
    (8 ≤ n.toNat ∨ 2 ≤ part.toNat → refused (.readGroup p n part)) ∧
    (∀ g : GroupIx, n.toNat = g.val → part.toNat < 2 →
      (s.group g = none → Exactly (.readGroup p n part) p ⟨.ok, [0x00#8]⟩ s s) ∧
      (∀ x, s.group g = some x → part = 1#8 → reads (.readGroup p n part) [0x80#8, BitVec.ofNat 8 x.list.length]) ∧
      (∀ x, s.group g = some x → part = 0#8 → reads (.readGroup p n part)
        ([BitVec.ofNat 8 (128 + (if x.arch = .oneToN then 64 else 0) + (if x.bidir then 32 else 0) +
            (if x.revertive then 16 else 0)), BitVec.ofNat 8 x.prot.val] ++
          (List.range 6).map fun k => match x.working[k]? with
            | some w => BitVec.ofNat 8 w.val
            | none => 0xFF#8))) ∧
    reads (.readClock p) [BitVec.ofNat 8 (16 * (match s.clock.loop with
        | .freeRun => 0
        | .acquiring => 1
        | .locked => 2
        | .holdover => 3) + (match s.clock.selected with
        | none => 0
        | some c => c.val + 1))] ∧
    (n = 0#8 ∨ 6 < n.toNat → refused (.readCandidate p n)) ∧
    (∀ c : CandIx, n.toNat = c.val + 1 → reads (.readCandidate p n)
      ([if (s.cand c).enabled then 0x80#8 else 0x00#8] ++ (match (s.cand c).source with
        | .none => [0x00#8]
        | .station => [BitVec.ofNat 8 (16 * (c.val + 1))]
        | .line l => [0x30#8, BitVec.ofNat 8 l.val, 0x00#8, BitVec.ofNat 8 (s.cand c).priority]
        | .group g k => [0x40#8, BitVec.ofNat 8 g.val, BitVec.ofNat 8 (16 * (k.val + 1)),
            BitVec.ofNat 8 (s.cand c).priority]))) ∧
    (48 < n.toNat → refused (.readAlarms p n)) ∧
    (n.toNat ≤ 48 → reads (.readAlarms p n) [BitVec.ofNat 8 s.alarms.entries.length, (match s.alarms.fixed.state with
        | .idle => 0#8
        | .active => 1#8
        | .cleared => 2#8)]) ∧
    (3 ≤ part.toNat ∨ (part = 2#8 ∧ 32 ≤ first.toNat) → refused (.readOffice p part first)) ∧
    (part = 1#8 → Exactly (.readOffice p part first) p ⟨.ok, s.office.descs.toList.flatMap fun d =>
      [BitVec.ofNat 8 d.start.val, BitVec.ofNat 8 d.length, if d.loops then 0x00#8 else 0x80#8, BitVec.ofNat 8 d.tone,
        BitVec.ofNat 8 d.tempo]⟩ s s) ∧
    (part = 0#8 → reads (.readOffice p part first) [BitVec.ofNat 8 ((if s.office.relayCrit then 128 else 0) +
      (if s.office.relayMaj then 64 else 0) + (if s.office.relayMin then 32 else 0) +
      (if s.office.buttonHigh then 16 else 0) + (if s.office.aco.isSome then 8 else 0))]) ∧
    (part = 2#8 → first.toNat < 32 → reads (.readOffice p part first)
      ((List.range (min 16 (32 - first.toNat))).map fun i => BitVec.ofNat 8 (first.toNat + i)))

/-- R165, R42, R138, R149: SHELF RESTART empties the queues and appends PART_START with reason RESTART first; it keeps the
thresholds, the Line Monitor, the scan and the Time Base; it closes moves and locates, sets every port from its expectation and
the out-of-turn list from the planned ports; it empties the alarm table and fills it again, as of now and unacknowledged, with the
conditions that stand, as long as it has room; no ALARM_RAISED of a line's integrated condition is issued where each of these had
its ACTIVE entry before, so that no refill but the restart's own has one to enter (R130, R135); it turns ACO off and keeps the
severity profile, the pattern memory and the descriptors. -/
def Obligations.ShelfRestartDoes : Prop :=
  ∀ (c : CtrlPort) (s : State), s.links.ready c.link = true →
    Answers (.shelfRestart c.link) c.link .ok s fun t =>
    Keeps [.time, .scan, .lines, .pending] s t ∧ ThresholdsSame s t ∧
    (∀ p : LinkPort, (t.links.queue p).events.head? = some ⟨s.time.seconds, .partStart true⟩) ∧
    (∀ l : LineIx,
      (t.port l).expect = (s.port l).expect ∧ (t.port l).lastTag = (s.port l).lastTag ∧ (t.port l).move = none ∧
      (t.port l).locate = none ∧ (t.port l).run = none ∧ (t.port l).failed = 0 ∧ (t.port l).agreeRun = 0 ∧
      (t.port l).state = (match (s.port l).expect with
        | .unplanned => CableState.unplanned
        | .vacant => if (s.line l).connAccepted then .unexpected else .vacantOk
        | .planned _ => .unverified)) ∧
    t.cabling.outOfTurn = allLines.filter (fun l => (s.port l).expect != .unplanned) ∧ t.cabling.read = none ∧
    t.cabling.roundRobin = s.cabling.roundRobin ∧ t.cabling.pollSlot = s.cabling.pollSlot ∧
    t.cabling.pollCount = s.cabling.pollCount ∧
    t.alarms.profile = s.alarms.profile ∧
    (∀ e ∈ t.alarms.entries, e.acked = false ∧ e.raisedAt = s.time.seconds) ∧
    (∀ (l : LineIx) (k : Cond), ((s.line l).soak.get k).integrated = true →
      (∃ e ∈ t.alarms.entries, e.alarm = .line (Cond.alarm k) l ∧ e.active = true ∧ e.count = 1) ∨
        t.alarms.fixed.state = .active) ∧
    (s.alarms.Sound →
      (∀ (l : LineIx) (k : Cond), ((s.line l).soak.get k).integrated = true →
        ∃ e ∈ s.alarms.entries, e.alarm = .line (Cond.alarm k) l ∧ e.active = true) →
      ∀ (p : LinkPort) (l : LineIx) (k : Cond) (v : Severity) (f : Option Bool) (n j : Nat), ∀ e ∈ (t.links.queue p).events,
        e.body ≠ .alarmRaised (some (.line (Cond.alarm k) l)) v f n j) ∧
    t.office.aco = none ∧ t.office.memory = s.office.memory ∧ t.office.descs = s.office.descs ∧
    t.office.buttonHigh = s.office.buttonHigh ∧ t.office.buttonCount = s.office.buttonCount

/-- R1, R23, R39, R86: the commands that set one value: the scan interval (1 to 8 ms), the poll slot (50 to 1000 ms), a locate
(10 to 1800 s) and the seconds counter. Each clamps its value to its range and changes nothing else. -/
def Obligations.SettingsSet : Prop :=
  ∀ (c : CtrlPort) (p : LinkPort) (n port : Byte) (slot dur : Word16) (time : Word32) (s : State),
    s.links.ready c.link = true → s.links.ready p = true →
    (let v := max 1 (min 8 n.toNat)
     Exactly (.lineSetupShelfForm c.link n) c.link ⟨takenStatus (v ≠ n.toNat), []⟩ s
       { s with scan := { interval := v, count := 0, next := s.scan.next } }) ∧
    (let v := max 50 (min 1000 slot.toNat)
     Exactly (.cableExpectShelfForm c.link slot) c.link ⟨takenStatus (v ≠ slot.toNat), []⟩ s
       { s with cabling := { s.cabling with pollSlot := v, pollCount := 0 } }) ∧
    Exactly (.timeSet c.link time) c.link ⟨.ok, []⟩ s
      { s with time := { millis := s.time.millis, tenths := s.time.tenths, seconds := time } } ∧
    (∀ l : LineIx, port.toNat = l.val →
      let v := max 10 (min 1800 dur.toNat)
      Exactly (.locateOn p port dur) p ⟨takenStatus (v ≠ dur.toNat), []⟩ s
        (s.setPort l { s.port l with locate := some ⟨v, 0⟩ }) ∧
      Exactly (.locateOff p port) p ⟨.ok, []⟩ s (s.setPort l { s.port l with locate := none })) ∧
    (16 ≤ port.toNat → Exactly (.locateOn p port dur) p ⟨.outOfRange, []⟩ s s ∧
      Exactly (.locateOff p port) p ⟨.outOfRange, []⟩ s s)

/-! ## Line scan and line monitoring (Section 1) -/

/-- R12, R15, R19: LINE SETUP, line form: the settings as clamped, with a clear threshold kept below its set threshold; CARD_ABSENT
formed again at once; no integration on a line that is not equipped; every other line as it was. -/
def Obligations.LineSetupTakes : Prop :=
  ∀ (c : CtrlPort) (x : LineSetupParams) (s : State), s.links.ready c.link = true →
    (∀ (l : LineIx) (equipped : Bool), x.line.toNat = l.val → x.equipped = (if equipped then 1#8 else 0#8) →
      let lim (lo hi n : Nat) := max lo (min hi n)
      let below (set clear : Nat) := if set ≤ clear then set - 1 else clear
      let k : LineSettings :=
        { equipped := equipped
          soakRaise := lim 5 100 x.soakRaise.toNat
          soakClear := lim 1 30 x.soakClear.toNat
          excSet := lim 1 65535 x.excSet.toNat
          excClear := below (lim 1 65535 x.excSet.toNat) (lim 1 65535 x.excClear.toNat)
          sdSet := lim 1 65535 x.sdSet.toNat
          sdClear := below (lim 1 65535 x.sdSet.toNat) (lim 1 65535 x.sdClear.toNat) }
      let out (lo hi n : Nat) : Bool := decide (n < lo) || decide (hi < n)
      let adjusted (set clear : Nat) : Bool :=
        out 1 65535 set || out 1 65535 clear || decide (lim 1 65535 set ≤ lim 1 65535 clear)
      let clamped : Bool := out 5 100 x.soakRaise.toNat || out 1 30 x.soakClear.toNat ||
        adjusted x.excSet.toNat x.excClear.toNat || adjusted x.sdSet.toNat x.sdClear.toNat
      Answers (.lineSetupLineForm c.link x) c.link (takenStatus (clamped = true)) s fun t =>
        t.line l = { s.line l with
          settings := k
          raw := { (s.line l).raw with cardAbsent := equipped && (s.line l).presence == .absent }
          soak := if equipped then (s.line l).soak else PerCond.all ⟨0, 0, false⟩ } ∧
        (∀ m, m ≠ l → t.line m = s.line m) ∧ Keeps [.time, .scan, .cabling, .due, .pending] s t) ∧
    (16 ≤ x.line.toNat ∨ 2 ≤ x.equipped.toNat → Exactly (.lineSetupLineForm c.link x) c.link ⟨.outOfRange, []⟩ s s)

/-- R3 to R7, R9, R13: what an inbound record does to its line. A good record sets the raw conditions of its bits, the presence
and the count of bad records, and adds its block errors to both bins, which a change to ABSENT clears first. A bad record adds to
the count, and the third makes CARD_UNREADABLE present and clears the bins. No record changes another line.
R17: a good record's echoes are compared with the commands of the previous outbound image that were not HOLD; a difference
adds to the mismatch run, which raises SELECTOR_FAULT at 3; agreement, two HOLD commands or an absent card set it to 0 and clear
SELECTOR_FAULT. R50: no comparison is made either where the image in use holds HOLD in both fields, as it does from the first scan
start after the line's group leaves service: that this is how those scans are told, and that the run goes to 0 in them, is the
model's reading (log entry 40). -/
def Obligations.RecordProcessed : Prop :=
  (∀ (l : LineIx) (record : Vector Byte 7) (s : State), Does (.inboundRecord l record) s fun t =>
     let old := s.line l
     let new := t.line l
     let r := readRecord record
     let third := old.badCount = 2
     let gone := r.cardPresent = false ∧ old.presence ≠ .absent
     (∀ m, m ≠ l → t.line m = s.line m) ∧ Keeps [.time, .cabling, .due, .pending] s t ∧
     new.settings = old.settings ∧ new.soak = old.soak ∧ new.connAccepted = old.connAccepted ∧ new.out = old.out ∧
     new.prevOut = old.prevOut ∧
     (goodRecord record = true →
       new.lastGood = r ∧ new.badCount = 0 ∧ new.presence = (if r.cardPresent then .present else .absent) ∧
       new.raw.lol = r.lol ∧ new.raw.lfa = r.lfa ∧ new.raw.ffi = r.ffi ∧ new.raw.rfi = r.rfi ∧
       new.raw.cardUnreadable = false ∧ new.raw.cardAbsent = (old.settings.equipped && !r.cardPresent) ∧
       (gone → new.excBin = 0 ∧ new.sdBin = 0 ∧ new.ring = List.replicate 10 0 ∧ new.lastExcBin = 0 ∧ new.clearRun = 0 ∧
         new.raw.exc = false ∧ new.raw.sd = false) ∧
       (¬ gone → new.excBin = min 65535 (old.excBin + r.blockErrors.toNat) ∧
         new.sdBin = min 65535 (old.sdBin + r.blockErrors.toNat) ∧ new.ring = old.ring ∧
         new.raw.exc = old.raw.exc ∧ new.raw.sd = old.raw.sd)) ∧
     (goodRecord record = false →
       new.lastGood = old.lastGood ∧ new.presence = old.presence ∧ new.badCount = min 3 (old.badCount + 1) ∧
       new.mismatchRun = old.mismatchRun ∧ new.selectorFault = old.selectorFault ∧
       (third → new.raw = { old.raw with cardUnreadable := true, exc := false, sd := false } ∧ new.excBin = 0 ∧
         new.sdBin = 0 ∧ new.ring = List.replicate 10 0) ∧
       (¬ third → new.raw = old.raw ∧ new.excBin = old.excBin ∧ new.sdBin = old.sdBin ∧ new.ring = old.ring))) ∧
  (∀ (l : LineIx) (record : Vector Byte 7) (s : State), goodRecord record = true →
     Does (.inboundRecord l record) s fun t =>
       let old := s.line l
       let new := t.line l
       let r := readRecord record
       let commanded : Prop := ¬ (old.out.select = .hold ∧ old.out.bridge = .hold)
       let differs : Prop := commanded ∧ (
         (old.prevOut.select ≠ .hold ∧ r.echoSelect.toNat ≠ SelectCmd.code old.prevOut.select) ∨
         (old.prevOut.bridge ≠ .hold ∧ r.echoBridge.toNat ≠ BridgeCmd.code old.prevOut.bridge))
       (r.cardPresent = true ∧ differs → new.mismatchRun = min 3 (old.mismatchRun + 1) ∧
         new.selectorFault = (old.selectorFault || decide (2 ≤ old.mismatchRun))) ∧
       (¬ (r.cardPresent = true ∧ differs) → new.mismatchRun = 0 ∧ new.selectorFault = false))

/-- R10, R14: EXC clears with its clear run; an integrated condition of an equipped line is raised or cleared, and handed at once
to the Alarm Table under its own alarm type. -/
def Obligations.ConditionsChange : Prop :=
  ∀ (l : LineIx) (c : Cond) (s : State),
    (Does (.excClear l) s fun t =>
      t.line l = { s.line l with
        clearRun := if (s.line l).raw.exc then 0 else (s.line l).clearRun
        raw := { (s.line l).raw with exc := false } } ∧
      (∀ m, m ≠ l → t.line m = s.line m) ∧ Keeps [.time, .scan, .cabling, .due, .pending] s t) ∧
    (let hold (v : Bool) : State :=
       s.setLine l ((s.line l).setSoak c { (s.line l).soak.get c with integrated := v })
     let on := (s.line l).settings.equipped = true ∧ ((s.line l).soak.get c).integrated = false
     let off := (s.line l).settings.equipped = true ∧ ((s.line l).soak.get c).integrated = true
     (on → DoesAs (.integratedRaise l c) s (.alarmConditionRaise (.line (Cond.alarm c) l)) (hold true)) ∧
     (¬ on → exec (.integratedRaise l c) s = .next s) ∧
     (off → DoesAs (.integratedClear l c) s (.alarmConditionClear (.line (Cond.alarm c) l)) (hold false)) ∧
     (¬ off → exec (.integratedClear l c) s = .next s))

/-- R16, R21, R27, R29, R40: a changed connector presence is accepted. A locate on the port ends, a read in flight on it is
discarded, and the port goes out of turn. With no move open the port takes the state of its kind and presence; with one open it
stays as it is, and its agree run is 0. -/
def Obligations.PresenceAccepted : Prop :=
  ∀ (l : LineIx) (s : State),
    ((s.line l).lastGood.connPresent = (s.line l).connAccepted →
      exec (.connectorPresenceAccepted l) s = .next s) ∧
    ((s.line l).lastGood.connPresent ≠ (s.line l).connAccepted →
      Does (.connectorPresenceAccepted l) s fun t =>
        let p := s.port l
        let present := (s.line l).lastGood.connPresent
        t.line l = { s.line l with connAccepted := present, connCount := 0 } ∧ (∀ m, m ≠ l → t.line m = s.line m) ∧
        (∀ m, m ≠ l → t.port m = s.port m) ∧
        t.port l = (if p.move.isSome then { p with locate := none, agreeRun := 0 }
          else { p with locate := none, agreeRun := 0, run := none, failed := 0,
                        state := (match p.expect with
                          | .unplanned => .unplanned
                          | .vacant => if present then .unexpected else .vacantOk
                          | .planned _ => if present then .unverified else .missing) }) ∧
        t.cabling.read = (if s.cabling.read = some l then none else s.cabling.read) ∧
        t.cabling.outOfTurn =
          (if l ∈ s.cabling.outOfTurn then s.cabling.outOfTurn else s.cabling.outOfTurn ++ [l]) ∧
        Keeps [.time, .scan, .due, .pending] s t)

/-- R1, R2, R18: a scan starts: its count restarts at 0, every line's image in use becomes the previous one, and every field of the
new image is its owner's value at that moment. -/
def Obligations.ScanLatches : Prop :=
  ∀ s : State, Instr.scanStart ∉ s.fired → Does .scanStart s fun t =>
    t.scan = { interval := s.scan.interval, count := 0, next := some 0 } ∧
    (∀ l : LineIx, t.line l = { s.line l with
      prevOut := (s.line l).out
      out :=
        { bridge := (s.prot.out.get l).bridge
          select := (s.prot.out.get l).select
          word := (s.prot.out.get l).word
          quality := if s.clock.feeding = some l then 15 else s.clock.ownQual
          lamp := (t.line l).out.lamp } }) ∧
    (∀ l : LineIx,
      let partner := ∃ q : LineIx, (s.port q).locate.isSome = true ∧ (s.port q).state = .swapped l
      let soak := (s.line l).soak
      let red := soak.lol.integrated || soak.lfa.integrated || soak.exc.integrated || soak.cardAbsent.integrated
      let quiet := (s.port l).state ∈ [.agreed, .vacantOk, .unplanned, .unverified]
      ((t.line l).out.lamp = .locateFlash ↔ (s.port l).locate.isSome = true ∨ partner) ∧
      ((t.line l).out.lamp = .red ↔ ¬ ((s.port l).locate.isSome = true ∨ partner) ∧ red = true) ∧
      ((t.line l).out.lamp = .amber ↔ ¬ ((s.port l).locate.isSome = true ∨ partner) ∧ red = false ∧
        (¬ quiet ∨ soak.sd.integrated = true)) ∧
      ((t.line l).out.lamp = .green ↔ ¬ ((s.port l).locate.isSome = true ∨ partner) ∧ red = false ∧ quiet ∧
        soak.sd.integrated = false ∧ (s.line l).presence = .present ∧ (s.line l).settings.equipped = true)) ∧
    Keeps [.time, .cabling, .prot, .ref, .clock, .alarms, .office, .links, .due, .pending] s t

/-- R85, R86: how the ticks and the seconds counter run: every 100th 1 ms tick is a 100 ms tick, every 10th of these a 1 s tick,
and each of those raises the seconds counter by 1, wrapping.
R1, R23, R81, R82, R141: at a 1 ms tick that brings no 100 ms tick, the scan interval, the poll slot and every group's agreement
and trial waits count and expire, and the level of ACO_PB* is debounced over ten ticks. -/
def Obligations.MilliTick : Prop :=
  (∀ (pin : Bool) (s : State),
     (Does (.tick1ms pin) s fun t =>
       t.time = (if s.time.millis + 1 < 100 then { s.time with millis := s.time.millis + 1 }
         else if s.time.tenths + 1 < 10 then { s.time with millis := 0, tenths := s.time.tenths + 1 }
         else { millis := 0, tenths := 0, seconds := s.time.seconds + 1#32 }) ∧ t.due = s.due) ∧
     (Instr.tick100ms ∉ s.fired → Does .tick100ms s fun t =>
       t.time = (if s.time.tenths + 1 < 10 then { s.time with millis := 0, tenths := s.time.tenths + 1 }
         else { millis := 0, tenths := 0, seconds := s.time.seconds + 1#32 }) ∧ t.due = s.due) ∧
     (Instr.tick1s ∉ s.fired → Does .tick1s s fun t =>
       t.time = { millis := 0, tenths := 0, seconds := s.time.seconds + 1#32 } ∧ t.due = s.due)) ∧
  (∀ (pin : Bool) (s : State), s.time.millis + 1 < 100 → Does (.tick1ms pin) s fun t =>
     t.scan.interval = s.scan.interval ∧
     t.scan.count = (if s.scan.interval ≤ s.scan.count + 1 then 0 else s.scan.count + 1) ∧
     (s.scan.interval ≤ s.scan.count + 1 → t.scan.next = some 0 ∧ ∀ l, (t.line l).prevOut = (s.line l).out) ∧
     t.cabling.pollSlot = s.cabling.pollSlot ∧
     t.cabling.pollCount = (if s.cabling.pollSlot ≤ s.cabling.pollCount + 1 then 0 else s.cabling.pollCount + 1) ∧
     (pin = s.office.buttonHigh → t.office.buttonHigh = s.office.buttonHigh ∧ t.office.buttonCount = 0) ∧
     (pin ≠ s.office.buttonHigh → s.office.buttonCount + 1 < 10 →
       t.office.buttonHigh = s.office.buttonHigh ∧ t.office.buttonCount = s.office.buttonCount + 1) ∧
     (pin ≠ s.office.buttonHigh → 10 ≤ s.office.buttonCount + 1 →
       t.office.buttonHigh = pin ∧ t.office.buttonCount = 0) ∧
     (∀ (g : GroupIx) (x : Group), s.group g = some x → x.inService = true → ∃ y, t.group g = some y ∧
       let ends (w : Option Nat) : Prop := ∃ n, w = some n ∧ x.timeout * 10 ≤ n + 1
       (¬ ends x.agreeWait → ¬ ends x.trialWait →
         y = { x with agreeWait := x.agreeWait.map (· + 1), trialWait := x.trialWait.map (· + 1) }) ∧
       (ends x.agreeWait → ¬ ends x.trialWait → x.disregarded = false →
         y = { x with agreeWait := none, protoFault := true, trialWait := x.trialWait.map (· + 1) }) ∧
       (ends x.agreeWait → ¬ ends x.trialWait → x.disregarded = true →
         y.list = x.list ∧ (y.agreementCond = true → x.protoFault = false → y.agreeWait = some 0) ∧
         (y.agreementCond = false → y.agreeWait = none ∧ y.protoFault = false)) ∧
       (ends x.trialWait → ¬ ends x.agreeWait → (∃ e ∈ x.list, e.external = true ∧ e.cls = .trial) →
         y.trialWait = none ∧ ∀ e ∈ y.list, ¬ (e.external = true ∧ e.cls = .trial))))

/-- R10, R14, R16, R59: at a 100 ms tick, its own or one that a 1 ms tick brings, every EXC bin closes, every condition of an
equipped line but EXC is sampled, its counters moved and it raised or cleared at its soak time; the connector presence is sampled
and accepted at the second sample that differs; and a hold-off above 0 counts, and ends at its time. A hold-off above 0 that such a tick's work starts, the work of a 1 s tick that
falls on it included, has counted nothing.
R11, R37, R40, R64, R115: at a 1 s tick, its own or one so brought, every SD bin closes into its ring of ten and SD is compared with
the ring's sum, and every move's window timer counts and ends its move at its time; at one of its own every locate timer does
likewise, and, where no SD and no move changes at it, every restore wait counts and expires and the holdover age counts. -/
def Obligations.SlowTicks : Prop :=
  let tenth (s t : State) : Prop := ∀ l : LineIx,
    let sample := (s.line l).lastGood.connPresent
    (t.line l).excBin = 0 ∧ (t.line l).lastExcBin = (s.line l).excBin ∧
    ((s.line l).raw.exc = false → (s.line l).clearRun < 10 →
      (t.line l).raw.exc = decide ((s.line l).settings.excSet ≤ (s.line l).excBin) ∧
      (t.line l).clearRun = (s.line l).clearRun) ∧
    ((s.line l).raw.exc = true →
      let run := if (s.line l).excBin ≤ (s.line l).settings.excClear then (s.line l).clearRun + 1 else 0
      (t.line l).raw.exc = decide (run < 10) ∧ (t.line l).clearRun = (if run < 10 then run else 0)) ∧
    (∀ c : Cond, c ≠ .exc → c ≠ .sd → (s.line l).settings.equipped = true →
      let present := (s.line l).raw.get c
      let old := (s.line l).soak.get c
      let new := (t.line l).soak.get c
      new.raiseCount = (if present then min 100 (old.raiseCount + 1) else 0) ∧
      new.clearCount = (if present then 0 else min 300 (old.clearCount + 1)) ∧
      new.integrated = (if present then old.integrated || decide ((s.line l).settings.soakRaise ≤ new.raiseCount)
        else old.integrated && !decide ((s.line l).settings.soakClear * 10 ≤ new.clearCount))) ∧
    (sample = (s.line l).connAccepted → (t.line l).connAccepted = sample ∧ (t.line l).connCount = 0) ∧
    (sample ≠ (s.line l).connAccepted → (s.line l).connCount = 0 →
      (t.line l).connAccepted = (s.line l).connAccepted ∧ (t.line l).connCount = 1) ∧
    (sample ≠ (s.line l).connAccepted → 1 ≤ (s.line l).connCount →
      (t.line l).connAccepted = sample ∧ (t.line l).connCount = 0)
  let second (s t : State) : Prop := ∀ l : LineIx,
    let ring := ((s.line l).sdBin :: (s.line l).ring).take 10
    (t.line l).ring = ring ∧ (t.line l).sdBin = 0 ∧
    (t.line l).raw.sd = (if (s.line l).raw.sd then decide ((s.line l).settings.sdClear < ring.sum)
      else decide ((s.line l).settings.sdSet ≤ ring.sum)) ∧
    (t.port l).move = (s.port l).move.bind fun m =>
      if m.window * 60 ≤ m.elapsed + 1 then none else some { m with elapsed := m.elapsed + 1 }
  let brings100 (i : Instr) (s : State) : Prop :=
    (i = .tick100ms ∧ i ∉ s.fired) ∨ ((∃ pin, i = .tick1ms pin) ∧ 100 ≤ s.time.millis + 1)
  (∀ (i : Instr) (s : State), brings100 i s → s.time.tenths + 1 < 10 → Does i s fun t =>
     tenth s t ∧
     (∀ l : LineIx, (s.line l).settings.equipped = true →
       let present := (s.line l).raw.sd
       let old := (s.line l).soak.sd
       let new := (t.line l).soak.sd
       new.raiseCount = (if present then min 100 (old.raiseCount + 1) else 0) ∧
       new.clearCount = (if present then 0 else min 300 (old.clearCount + 1)) ∧
       new.integrated = (if present then old.integrated || decide ((s.line l).settings.soakRaise ≤ new.raiseCount)
         else old.integrated && !decide ((s.line l).settings.soakClear * 10 ≤ new.clearCount))) ∧
     (∀ (g : GroupIx) (k : ChanIx) (x : Group) (n : Nat), s.group g = some x → x.inService = true → x.holdOff ≠ 0 →
       (x.chans.get k).hold = some n → (x.chans.get k).cond ≠ .none → ∃ y, t.group g = some y ∧
         ((y.chans.get k).cond = (x.chans.get k).cond →
           (y.chans.get k).hold = if n + 1 < x.holdOff then some (n + 1) else none))) ∧
  (∀ (i : Instr) (s : State), brings100 i s → 10 ≤ s.time.tenths + 1 → Does i s fun t => tenth s t ∧ second s t) ∧
  (∀ (i : Instr) (s : State), brings100 i s → Does i s fun t => ∀ (g : GroupIx) (k : ChanIx) (x : Group),
     s.group g = some x → x.holdOff ≠ 0 → (x.chans.get k).hold = none →
     ∃ y, t.group g = some y ∧ ((y.chans.get k).hold = none ∨ (y.chans.get k).hold = some 0)) ∧
  (∀ s : State, Instr.tick1s ∉ s.fired → Does .tick1s s fun t =>
     second s t ∧
     (∀ l : LineIx, (t.port l).locate = (s.port l).locate.bind fun x =>
       if x.duration ≤ x.elapsed + 1 then none else some { x with elapsed := x.elapsed + 1 }) ∧
     (let calm : Prop := ∀ l : LineIx, (t.line l).raw.sd = (s.line l).raw.sd ∧
        (t.port l).move.isSome = (s.port l).move.isSome
      (∀ (g : GroupIx) (x : Group) (n : Nat), s.group g = some x → x.inService = true → x.restoreWait = some n → calm →
        ∃ y, t.group g = some y ∧
          (n + 1 < x.restoreTime → y.restoreWait = some (n + 1) ∧ y.list = x.list) ∧
          (x.restoreTime ≤ n + 1 → y.restoreWait = none ∧ ∀ e ∈ y.list, e.cls ≠ .restoreWait)) ∧
      (calm → (∀ g x n, s.group g = some x → x.inService = true → x.restoreWait = some n → n + 1 < x.restoreTime) →
        (s.clock.loop ≠ .holdover → t.clock = s.clock) ∧
        (s.clock.loop = .holdover → t.clock.loop = .holdover ∧ t.clock.ageCount = min 259200 (s.clock.ageCount + 1) ∧
          t.clock.aged = (s.clock.aged || decide (s.clock.settings.ageHours * 3600 ≤ t.clock.ageCount)) ∧
          t.clock.steer = s.clock.steer ∧ t.ref = s.ref))))

/-! ## Cabling verification (Section 2) -/

/-- R21, R22, R32: CABLE EXPECT, port form, with its checks in their order. A taken command writes the expectation, sets the port
from its kind and presence, discards a read in flight, appends the port out of turn, and returns every port that is SWAPPED naming
it. -/
def Obligations.ExpectationWritten : Prop :=
  ∀ (c : CtrlPort) (port kind : Byte) (cord : Word32) (e cls : Byte) (s : State), s.links.ready c.link = true →
    let i : Instr := .cableExpectPortForm c.link port kind cord e cls
    let names (x : Expectation) : Prop := match x with
      | .unplanned => kind = 0#8
      | .vacant => kind = 1#8
      | .planned d => kind = 2#8 ∧ cord = d.id ∧ cord ≠ 0x00000000#32 ∧ cord ≠ 0xFFFFFFFF#32 ∧
          e = (if d.fin = .b then 1#8 else 0#8) ∧ cls.toNat = d.cls ∧ 1 ≤ d.cls ∧ d.cls ≤ 15
    (16 ≤ port.toNat ∨ (∀ x, ¬ names x) → Exactly i c.link ⟨.outOfRange, []⟩ s s) ∧
    (∀ (l : LineIx) (x : Expectation), port.toNat = l.val → names x →
      let duplicate := ∃ d, x = .planned d ∧ ∃ q : LineIx, q ≠ l ∧ (s.port q).holds d.id = true
      ((s.port l).move.isSome = true → Exactly i c.link ⟨.busy, []⟩ s s) ∧
      ((s.port l).move = none → duplicate → Exactly i c.link ⟨.duplicateCord, []⟩ s s) ∧
      ((s.port l).move = none → ¬ duplicate → Answers i c.link .ok s fun t =>
        t.port l = { s.port l with
          expect := x, run := none, failed := 0
          state := (match x with
            | .unplanned => .unplanned
            | .vacant => if (s.line l).connAccepted then .unexpected else .vacantOk
            | .planned _ => if (s.line l).connAccepted then .unverified else .missing) } ∧
        (∀ q, q ≠ l → (s.port q).state = .swapped l →
          t.port q = { s.port q with
            run := none, failed := 0, state := if (s.port q).expect = .vacant then .unexpected else .unverified } ∧
          q ∈ t.cabling.outOfTurn) ∧
        (∀ q, q ≠ l → (s.port q).state ≠ .swapped l → t.port q = s.port q) ∧
        t.cabling.read = (if s.cabling.read = some l then none else s.cabling.read) ∧
        l ∈ t.cabling.outOfTurn ∧ s.cabling.outOfTurn <+: t.cabling.outOfTurn ∧
        Keeps [.time, .scan, .lines, .due, .pending] s t))

/-- R35, R22: CABLE MOVE, with its checks in their order. A taken command opens the move with its window clamped to 1 to 120
minutes: the port is MOVING, and its expectation is as it was.
R32: every port that is SWAPPED naming it is returned to the state of its kind and goes out of turn.
R57: the port's line, if it is a member of an in-service group, enters its CABLING request into the group's list. That it enters in
place of one whose "move closed" notice is still due is the model's choice, not R57's: the command takes the due notice first (log
entry 25). -/
def Obligations.MoveOpened : Prop :=
  ∀ (p : LinkPort) (port : Byte) (cord : Word32) (e cls window : Byte) (s : State), s.links.ready p = true →
    let i : Instr := .cableMove p port cord e cls window
    let names (d : Cord) : Prop := cord = d.id ∧ cord ≠ 0x00000000#32 ∧ cord ≠ 0xFFFFFFFF#32 ∧
      e = (if d.fin = .b then 1#8 else 0#8) ∧ cls.toNat = d.cls ∧ 1 ≤ d.cls ∧ d.cls ≤ 15
    (16 ≤ port.toNat ∨ (∀ d, ¬ names d) → Exactly i p ⟨.outOfRange, []⟩ s s) ∧
    (∀ (l : LineIx) (d : Cord), port.toNat = l.val → names d →
      let w := max 1 (min 120 window.toNat)
      let held := ∃ q : LineIx, (s.port q).holds d.id = true
      ((s.port l).move.isSome = true → Exactly i p ⟨.busy, []⟩ s s) ∧
      ((s.port l).move = none → held → Exactly i p ⟨.duplicateCord, []⟩ s s) ∧
      ((s.port l).move = none → ¬ held → Answers i p (takenStatus (w ≠ window.toNat)) s fun t =>
        t.port l = { s.port l with move := some ⟨d, w, 0⟩, agreeRun := 0, run := none, failed := 0, state := .moving } ∧
        (∀ q, q ≠ l → (t.port q).expect = (s.port q).expect ∧ (t.port q).move = (s.port q).move) ∧
        (∀ q, q ≠ l → (s.port q).state = .swapped l →
          t.port q = { s.port q with
            run := none, failed := 0, state := if (s.port q).expect = .vacant then .unexpected else .unverified } ∧
          q ∈ t.cabling.outOfTurn) ∧
        (∀ q, q ≠ l → (s.port q).state ≠ .swapped l → t.port q = s.port q) ∧
        (∀ (g : GroupIx) (x : Group), s.prot.groupOf l = some g → s.group g = some x → x.inService = true →
          (∀ e ∈ x.list, e.cablingOf l = false) ∨ Instr.moveClosedNotice l ∈ s.due → ∃ y, t.group g = some y ∧
            (x.prot = l → ⟨.lockout, 0, .cabling, some l⟩ ∈ y.list) ∧
            (∀ k : ChanIx, x.prot ≠ l → x.chanOf l = some k → ⟨.force, k.val + 1, .cabling, some l⟩ ∈ y.list)) ∧
        t.cabling.read = (if s.cabling.read = some l then none else s.cabling.read) ∧
        l ∈ t.cabling.outOfTurn ∧ Keeps [.time, .scan, .lines, .pending] s t))

/-- R37, R38: a move is abandoned, by CABLE MOVE CANCEL from any port or by the expiry of its window: the pending expectation goes,
and the port is set from its old expectation and goes out of turn. The expiry raises MOVE_EXPIRED on the line, stated where its
entry stands already, or where the table has 24 entries or fewer and no group and no candidate has the line. With no move open
the command is refused with NOT_CONFIGURED, and the expiry does nothing. -/
def Obligations.MoveAbandoned : Prop :=
  ∀ (p : LinkPort) (port : Byte) (l : LineIx) (s : State),
    let left (t : State) : Prop :=
      t.port l = { s.port l with
        move := none, agreeRun := 0, run := none, failed := 0
        state := (match (s.port l).expect with
          | .unplanned => .unplanned
          | .vacant => if (s.line l).connAccepted then .unexpected else .vacantOk
          | .planned _ => if (s.line l).connAccepted then .unverified else .missing) } ∧
      t.cabling.read = (if s.cabling.read = some l then none else s.cabling.read) ∧
      l ∈ t.cabling.outOfTurn ∧ Keeps [.time, .scan, .lines, .due, .pending] s t
    (16 ≤ port.toNat → s.links.ready p = true → Exactly (.cableMoveCancel p port) p ⟨.outOfRange, []⟩ s s) ∧
    (port.toNat = l.val → s.links.ready p = true →
      ((s.port l).move = none → Exactly (.cableMoveCancel p port) p ⟨.notConfigured, []⟩ s s) ∧
      ((s.port l).move.isSome = true → Answers (.cableMoveCancel p port) p .ok s left)) ∧
    ((s.port l).move = none → exec (.moveWindowExpiry l) s = .next s) ∧
    ((s.port l).move.isSome = true → Does (.moveWindowExpiry l) s left) ∧
    (let alarm : Alarm := .line .moveExpired l
     let stands := ∃ e ∈ s.alarms.entries, e.alarm = alarm ∧ e.active = true
     let apart := s.prot.groupOf l = none ∧ ∀ c, (s.cand c).resolved ≠ some l
     (s.port l).move.isSome = true → s.alarms.Sound → (stands ∨ (s.alarms.entries.length ≤ 24 ∧ apart)) →
       Does (.moveWindowExpiry l) s fun t => ∃ e ∈ t.alarms.entries, e.alarm = alarm ∧ e.active = true ∧
         e.acked = false ∧ e.raisedAt = s.time.seconds) ∧
    exec (.locateTimerExpiry l) s = .next (s.setPort l { s.port l with locate := none })

/-- R28: how a tag is classified: on a PLANNED port and on a VACANT port with no move open, and on a port with a move open. -/
def Obligations.TagClassified : Prop :=
  ∀ (cb : Cabling) (l : LineIx) (want tag : Cord),
    let blank : Prop := tag.id = 0x00000000#32 ∨ tag.id = 0xFFFFFFFF#32
    let o := classify cb l tag
    let elsewhere : Prop := ∃ r : LineIx, o = .elsewhere r ∧ r ≠ l ∧ (cb.ports.get r).holds tag.id = true
    let held : Prop := ∃ q : LineIx, q ≠ l ∧ (cb.ports.get q).holds tag.id = true
    ((cb.ports.get l).move = none → (cb.ports.get l).expect = .planned want →
      (blank → o = .blank) ∧
      (¬ blank → tag.id = want.id →
        (tag.fin = want.fin → tag.cls = want.cls → o = .agree) ∧ (tag.fin ≠ want.fin → o = .wrongEnd) ∧
        (tag.fin = want.fin → tag.cls ≠ want.cls → o = .wrongClass)) ∧
      (¬ blank → tag.id ≠ want.id → (held → elsewhere) ∧ (¬ held → o = .foreign))) ∧
    ((cb.ports.get l).move = none → (cb.ports.get l).expect = .vacant →
      (held → elsewhere) ∧ (¬ held → o = .other)) ∧
    (∀ m, (cb.ports.get l).move = some m → (tag = m.pending → o = .agree) ∧ (tag ≠ m.pending → o = .notYet))

/-- R26, R30, R31, R36: how the end of the read in flight is applied. With none in flight there is nothing to end. -/
def Obligations.TagReadApplied : Prop :=
  ∀ (tag : Vector Byte 6) (f : TagFailure) (s : State),
    (s.cabling.read = none → exec (.tagReadResult tag) s = .next s ∧ exec (.tagReadFailure f) s = .next s) ∧
    (∀ l : LineIx, s.cabling.read = some l →
      let p := s.port l
      let o := classify s.cabling l (readTag tag)
      let n := min 3 (p.failed + 1)
      let failed (t : State) : Prop := t.cabling.read = none ∧
        t.port l = { p with
          failed := n
          state := (match p.move, p.expect with
            | none, .planned _ => if n = 3 then .unreadable else p.state
            | _, _ => p.state) }
      Does (.tagReadFailure f) s failed ∧
      (goodTag tag = false → Does (.tagReadResult tag) s failed) ∧
      (goodTag tag = true → Does (.tagReadResult tag) s fun t =>
        let q := { p with failed := 0, lastTag := readTag tag }
        t.cabling.read = none ∧
        (p.move = none → o = .agree → t.port l = { q with run := none, state := .agreed }) ∧
        (p.move = none → o = .other → t.port l = { q with
          run := some (.other, 1)
          state := (match p.state with
            | .swapped _ => .unexpected
            | st => st) }) ∧
        (p.move = none → ∀ st, o.conclusion = some st → o ≠ .agree → t.port l = { q with
          run := some (o, match p.run with
            | some (o', _) => if o' = o then 2 else 1
            | none => 1)
          state := if p.run = some (o, 1) then st else p.state }) ∧
        (∀ m, p.move = some m →
          (readTag tag ≠ m.pending → t.port l = { q with agreeRun := 0 }) ∧
          (readTag tag = m.pending → p.agreeRun = 0 → t.port l = { q with agreeRun := 1 }) ∧
          (readTag tag = m.pending → 1 ≤ p.agreeRun → t.port l = { q with
            expect := .planned m.pending, move := none, agreeRun := 0, run := none, state := .agreed }))))

/-- R23, R24: at a slot expiry the count restarts, and the first port of the out-of-turn list that may be read is read; with none,
the first one after the round-robin position, which moves to it. -/
def Obligations.PortChosen : Prop :=
  ∀ s : State, Instr.pollSlotExpiry ∉ s.fired → Does .pollSlotExpiry s fun t =>
    let may (l : LineIx) : Prop := (s.line l).connAccepted = true ∧ ((s.port l).expect ≠ .unplanned ∨ (s.port l).move.isSome = true)
    let after (l : LineIx) : Fin 16 := l - s.cabling.roundRobin - 1
    t.cabling.pollCount = 0 ∧ t.cabling.ports = s.cabling.ports ∧ t.cabling.pollSlot = s.cabling.pollSlot ∧
    (∀ (xs ys : List LineIx) (l : LineIx), s.cabling.outOfTurn = xs ++ l :: ys → (∀ x ∈ xs, ¬ may x) → may l →
      t.cabling.read = some l ∧ t.cabling.outOfTurn = ys ∧ t.cabling.roundRobin = s.cabling.roundRobin) ∧
    ((∀ x ∈ s.cabling.outOfTurn, ¬ may x) → t.cabling.outOfTurn = [] ∧
      (∀ l, may l → (∀ m, may m → after l ≤ after m) → t.cabling.read = some l ∧ t.cabling.roundRobin = l) ∧
      ((∀ l, ¬ may l) → t.cabling.read = s.cabling.read ∧ t.cabling.roundRobin = s.cabling.roundRobin)) ∧
    Keeps [.time, .scan, .lines, .prot, .ref, .clock, .alarms, .office, .links, .due, .pending] s t

/-! ## Protection (Sections 3 and 4) -/

/-- R52: the winner is the oldest of the entries of highest class that are not held; SIGNAL_DEGRADE entries are held while the
protection line has raw degrade; with no entry taking part the winner is IDLE with channel 0. -/
def Obligations.WinnerChosen : Prop :=
  ∀ (s : State) (x : Group),
    let held (e : ReqEntry) : Prop := (s.line x.prot).raw.sd = true ∧ e.cls = .signalDegrade
    (∀ w : ReqEntry, s.winningEntry x = some w → ∃ older younger : List ReqEntry,
      x.list = older ++ w :: younger ∧ ¬ held w ∧
      (∀ e ∈ older, ¬ held e → ReqClass.code e.cls < ReqClass.code w.cls) ∧
      (∀ e ∈ younger, ¬ held e → ReqClass.code e.cls ≤ ReqClass.code w.cls)) ∧
    ((∀ e ∈ x.list, held e) ↔ s.winningEntry x = none) ∧
    (s.winningEntry x = none → winnerOf (s.winningEntry x) = ⟨.idle, 0, none⟩)

/-- R74 to R80: the far-end request and the far-end bridged channel that an accepted word gives; the effective request formed from
the local winner and the far-end request; the bridged channel, the selected channel and the signal state that follow from it; and
the outbound fields that the member lines' records then carry, the transmitted word among them. -/
def Obligations.EffectiveFormed : Prop :=
  ∀ (x : Group) (w : Winner),
    let y := x.formed w
    let f := x.farRequest
    let a := x.tracker.accepted
    let cls := a.toNat / 4096
    let chan := a.toNat / 256 % 16
    let unread := x.tracker.received = false ∨ (x.arch = .oneToN ∧ a.getLsbD 3 = false)
    let fits := (7 ≤ cls → cls ≤ 13 → 1 ≤ chan ∧ chan ≤ x.working.length) ∧ (cls = 0 ∨ cls = 14 ∨ cls = 15 → chan = 0)
    (unread → f = (.idle, 0) ∧ x.farBridge = 0) ∧
    (¬ unread → x.farBridge = a.toNat / 16 % 16 ∧
      ∀ c : ReqClass, ReqClass.code c = cls → f = (if fits then (c, chan) else (.idle, 0))) ∧
    let bidir : Prop := x.bidir = true ∧ x.mismatch = false
    let far := ReqClass.code f.1 > ReqClass.code w.cls ∨
      (ReqClass.code f.1 = ReqClass.code w.cls ∧ f.2 ≠ 0 ∧ (w.chan = 0 ∨ f.2 < w.chan))
    (bidir ∧ f ∉ x.own ∧ far → y.eff = ⟨f.1, f.2, false⟩) ∧
    (¬ (bidir ∧ f ∉ x.own ∧ far) → y.eff = ⟨w.cls, w.chan, true⟩) ∧
    (bidir → y.eff.isLocal = true → (y.eff.cls, y.eff.chan) ∈ y.own) ∧ (¬ bidir → y.own = []) ∧
    (x.arch = .onePlusOne → y.bridged = 1 ∧ y.selected = (if y.eff.cls = .trial then 0 else y.eff.chan) ∧
      y.signal = (if y.selected ≠ 0 then .switched else .quiet)) ∧
    (x.arch = .oneToN →
      (bidir → y.bridged = (if y.eff.cls = .trial then 0 else y.eff.chan)) ∧
      (¬ bidir → y.bridged = (if f.1 = .trial then 0 else f.2)) ∧
      y.selected = (if y.eff.cls ≠ .trial ∧ x.farBridge = y.eff.chan then y.eff.chan else 0) ∧
      y.signal = (if y.selected ≠ 0 then .switched
        else if y.eff.chan ≠ 0 ∧ y.eff.cls ≠ .trial then .requesting
        else if x.farBridge ≠ 0 then .releasing else .quiet)) ∧
    y.list = x.list ∧ y.tracker = x.tracker ∧
    (let out := y.cmdFor
     let sent := (out x.prot).word
     (out x.prot).select = .own ∧ (y.bridged = 0 → (out x.prot).bridge = .none) ∧
     (∀ k : ChanIx, y.bridged = k.val + 1 → (out x.prot).bridge = .channel k) ∧
     (y.eff.chan < 16 → y.bridged < 16 → sent.toNat / 4096 = ReqClass.code y.eff.cls ∧
       sent.toNat / 256 % 16 = y.eff.chan ∧ sent.toNat / 16 % 16 = y.bridged) ∧
     sent.getLsbD 3 = (x.arch == .oneToN) ∧ sent.getLsbD 2 = x.bidir ∧ sent.getLsbD 1 = x.revertive ∧
     ((List.range 16).filter fun i => sent.getLsbD i).length % 2 = 1 ∧
     (∀ (l : LineIx) (k : ChanIx), l ≠ x.prot → x.chanOf l = some k →
       out l = ⟨.none, if y.selected = k.val + 1 then .protection else .own, 0x0001#16⟩))

/-- R70 to R73: what a record on a group's protection line does to the far-end tracker. A bad record leaves it. A record that brings
raw LOL or LFA resets it. A counted word extends its run or begins a new one; a run of 3 with a word other than the accepted one
is a change of the accepted word, which forms the mode mismatch flag again. -/
def Obligations.WordAccepted : Prop :=
  ∀ (g : GroupIx) (l : LineIx) (record : Vector Byte 7) (x : Group) (s : State),
    s.prot.role l = .protection g → s.group g = some x →
    Does (.inboundRecord l record) s fun t => ∃ y, t.group g = some y ∧
      let r := readRecord record
      let w := r.word
      let same : Prop := y.tracker = x.tracker ∧ y.mismatch = x.mismatch
      let lost := r.lol || r.lfa
      let was := (s.line l).raw.lol || (s.line l).raw.lfa
      let cls := w.toNat / 4096
      let counts := r.pcwValid = true ∧ ((List.range 16).filter fun i => w.getLsbD i).length % 2 = 1 ∧ (cls = 0 ∨ 7 ≤ cls)
      let run := if x.tracker.last = some w then min 3 (x.tracker.run + 1) else 1
      let changes := run = 3 ∧ (x.tracker.accepted ≠ w ∨ x.tracker.received = false)
      (goodRecord record = false → same) ∧
      (goodRecord record = true →
        (lost = true → was = false → y.tracker = ⟨none, 0, 0x0001#16, false⟩ ∧ y.mismatch = x.mismatch) ∧
        (lost = true → was = true → same) ∧
        (lost = false → ¬ counts → same) ∧
        (lost = false → counts → ¬ changes →
          y.tracker = ⟨some w, run, x.tracker.accepted, x.tracker.received⟩ ∧ y.mismatch = x.mismatch) ∧
        (lost = false → counts → changes → y.tracker = ⟨some w, 3, w, true⟩ ∧
          (y.mismatch = false ↔ (w.getLsbD 3 = true ↔ x.arch = .oneToN) ∧ w.getLsbD 2 = x.bidir)))

/-- R54, R55: PROTECTION REQUEST with a kind other than CLEAR, its checks in their order, and what a taken request does to the list:
it replaces the external request, ends an entry of RESTORE_WAIT or HOLD_SWITCHED, and is itself removed where a TRIAL passes at once
(R82).
R54, R56: CLEAR takes out the external request of any port from Port A or B, and only its own from Port C. -/
def Obligations.RequestTakenAndCleared : Prop :=
  (∀ (p : LinkPort) (group kind channel : Byte) (s : State), s.links.ready p = true → kind ≠ 0#8 →
     let i : Instr := .protectionRequest p group kind channel
     let cls : Option ReqClass := match kind.toNat with
       | 15 => some .lockout
       | 13 => some .force
       | 10 => some .manual
       | 8 => some .trial
       | _ => none
     (8 ≤ group.toNat ∨ cls = none → Exactly i p ⟨.outOfRange, []⟩ s s) ∧
     (∀ (g : GroupIx) (k : ReqClass), group.toNat = g.val → cls = some k →
       (p = .c → k ≠ .lockout → Exactly i p ⟨.notPermitted, []⟩ s s) ∧
       (p ≠ .c ∨ k = .lockout →
         (s.group g = none → Exactly i p ⟨.notConfigured, []⟩ s s) ∧
         (∀ x : Group, s.group g = some x →
           let fits := k = .lockout ∨ (1 ≤ channel.toNat ∧ channel.toNat ≤ x.working.length)
           let chan := if k = .lockout then 0 else channel.toNat
           let rank := ReqClass.code (winnerOf (s.winningEntry { x with list := x.list.filter fun e => e.source != .port p })).cls
           (x.inService = false → Exactly i p ⟨.notPermitted, []⟩ s s) ∧
           (x.inService = true → ¬ fits → Exactly i p ⟨.outOfRange, []⟩ s s) ∧
           (x.inService = true → fits → (x.list.filter (·.external)).length ≤ 1 →
             (ReqClass.code k ≤ rank → Exactly i p ⟨.outranked, []⟩ s s) ∧
             (rank < ReqClass.code k → Answers i p .ok s fun t => ∃ y : Group,
               t.group g = some y ∧ y.inService = true ∧
               y.list = (x.list.filter fun e => !e.external && !e.keeps) ++
                 (if k = .trial ∧ x.farRequest = (.trial, chan) then [] else [⟨k, chan, .port p, none⟩]) ∧
               (∀ h, h ≠ g → t.group h = s.group h) ∧ Keeps [.time, .scan, .lines, .cabling, .due, .pending] s t)))))) ∧
  (∀ (p : LinkPort) (group : Byte) (s : State), s.links.ready p = true →
     let i : Instr := .protectionRequestClear p group
     (8 ≤ group.toNat → Exactly i p ⟨.outOfRange, []⟩ s s) ∧
     (∀ g : GroupIx, group.toNat = g.val →
       (s.group g = none → Exactly i p ⟨.notConfigured, []⟩ s s) ∧
       (∀ x : Group, s.group g = some x →
         (x.inService = false → Exactly i p ⟨.notPermitted, []⟩ s s) ∧
         (x.inService = true → (∀ e ∈ x.list, e.external = false) → Exactly i p ⟨.ok, []⟩ s s) ∧
         (∀ (older younger : List ReqEntry) (e : ReqEntry) (q : LinkPort), x.inService = true →
           x.list = older ++ e :: younger → e.source = .port q → (∀ d ∈ older ++ younger, d.external = false) →
           (p = .c → q ≠ .c → Exactly i p ⟨.notIssuer, []⟩ s s) ∧
           (p ≠ .c ∨ q = .c → Answers i p .ok s fun t => ∃ y : Group,
             t.group g = some y ∧ (∀ d ∈ y.list, d ∈ older ++ younger) ∧
             (∀ d ∈ older ++ younger, d.keeps = false → d ∈ y.list) ∧
             (∀ h, h ≠ g → t.group h = s.group h) ∧ Keeps [.time, .scan, .lines, .cabling, .due, .pending] s t)))))

/-- R43 to R46, R83: GROUP SETUP. The configure form takes a line in no other group, once each, and clamps its times; the record
starts out of service, with its list empty and its signalling state afresh. The remove form drops the record. A group in service is
refused. A group, a line, a flag or a count out of its range is refused before all else; the bytes of the working list past the
count are ignored, whatever they hold. -/
def Obligations.GroupConfigured : Prop :=
  ∀ (c : CtrlPort) (g : GroupIx) (oneToN bidir revertive : Bool) (prot : LineIx) (six : Vector LineIx 6) (n : Fin 7)
    (hold timeout group : Byte) (restore : Word16) (s : State), s.links.ready c.link = true →
    let flag (b : Bool) : Byte := if b then 1#8 else 0#8
    let params : GroupSetupParams :=
      { group := BitVec.ofNat 8 g.val, arch := flag oneToN, direction := flag bidir, revertive := flag revertive
        prot := BitVec.ofNat 8 prot.val, count := BitVec.ofNat 8 n.val, working := six.map fun l => BitVec.ofNat 8 l.val
        holdOff := hold, restoreWait := restore, timeout := timeout }
    let i : Instr := .groupSetupConfigureForm c.link params
    let working := six.toList.take n.val
    let fits := 1 ≤ n.val ∧ (oneToN = false → n.val = 1)
    let serving := ∃ x, s.group g = some x ∧ x.inService = true
    let conflict := ¬ (prot :: working).Nodup ∨
      ∃ h x l, h ≠ g ∧ s.group h = some x ∧ l ∈ prot :: working ∧ (x.prot = l ∨ l ∈ x.working)
    (¬ fits → Exactly i c.link ⟨.outOfRange, []⟩ s s) ∧
    (fits → serving → Exactly i c.link ⟨.groupInService, []⟩ s s) ∧
    (fits → ¬ serving → conflict → Exactly i c.link ⟨.memberConflict, []⟩ s s) ∧
    (fits → ¬ serving → ¬ conflict →
      let h := min 100 hold.toNat
      let r := max 30 (min 900 restore.toNat)
      let w := max 5 (min 100 timeout.toNat)
      Answers i c.link (takenStatus (h ≠ hold.toNat ∨ r ≠ restore.toNat ∨ w ≠ timeout.toNat)) s fun t => ∃ x : Group,
        t.group g = some x ∧ x.arch = (if oneToN then .oneToN else .onePlusOne) ∧ x.bidir = bidir ∧
        x.revertive = revertive ∧ x.prot = prot ∧ x.working = working ∧ x.holdOff = h ∧ x.restoreTime = r ∧
        x.timeout = w ∧ x.inService = false ∧ x.list = [] ∧ x.restoreWait = none ∧ x.agreeWait = none ∧
        x.trialWait = none ∧ x.selected = 0 ∧ x.bridged = 0 ∧ x.signal = .quiet ∧ x.tracker = Tracker.initial ∧
        x.own = [] ∧ x.mismatch = false ∧ x.protoFault = false ∧ x.crossed = crossedCond s.cabling x ∧
        Keeps [.time, .scan, .lines, .cabling, .due, .pending] s t) ∧
    (serving → Exactly (.groupSetupRemoveForm c.link (BitVec.ofNat 8 g.val)) c.link ⟨.groupInService, []⟩ s s) ∧
    (¬ serving → Answers (.groupSetupRemoveForm c.link (BitVec.ofNat 8 g.val)) c.link .ok s fun t => t.group g = none) ∧
    (8 ≤ group.toNat → Exactly (.groupSetupRemoveForm c.link group) c.link ⟨.outOfRange, []⟩ s s ∧
      Exactly (.groupSetupConfigureForm c.link { params with group := group }) c.link ⟨.outOfRange, []⟩ s s) ∧
    (∀ x : GroupSetupParams,
      (8 ≤ x.group.toNat ∨ 2 ≤ x.arch.toNat ∨ 2 ≤ x.direction.toNat ∨ 2 ≤ x.revertive.toNat ∨ 16 ≤ x.prot.toNat ∨
        6 < x.count.toNat ∨ ∃ i : Fin 6, i.val < x.count.toNat ∧ 16 ≤ (x.working.get i).toNat) →
      Exactly (.groupSetupConfigureForm c.link x) c.link ⟨.outOfRange, []⟩ s s) ∧
    (∀ (x : GroupSetupParams) (other : Vector Byte 6),
      (∀ j : Fin 6, j.val < x.count.toNat → other.get j = x.working.get j) →
      exec (.groupSetupConfigureForm c.link { x with working := other }) s = exec (.groupSetupConfigureForm c.link x) s)

/-- R47, R48, R50: GROUP SERVICE. Entering service starts from an empty list and keeps the far-end tracker; leaving it empties the
list, stops the waits, sends every member card HOLD and the IDLE word, and leaves the member lines UNCOVERED.
R49, R63: a 1+1 group that enters service with its working card present and standing on the protection line keeps it there, by
RESTORE_WAIT if it is revertive and HOLD_SWITCHED if not, where nothing else is to enter its list; so does a 1:N group with the
working card of a channel present and standing on the protection line and the protection card present and bridged to it. -/
def Obligations.GroupServed : Prop :=
  (∀ (c : CtrlPort) (group : Byte) (s : State), s.links.ready c.link = true →
     let i : Instr := .groupServiceIn c.link group
     let o : Instr := .groupServiceOut c.link group
     (8 ≤ group.toNat → Exactly i c.link ⟨.outOfRange, []⟩ s s ∧ Exactly o c.link ⟨.outOfRange, []⟩ s s) ∧
     (∀ g : GroupIx, group.toNat = g.val →
       (s.group g = none → Exactly i c.link ⟨.notConfigured, []⟩ s s ∧ Exactly o c.link ⟨.notConfigured, []⟩ s s) ∧
       (∀ x : Group, s.group g = some x →
         (x.inService = true → Exactly i c.link ⟨.ok, []⟩ s s) ∧
         (x.inService = false → Exactly o c.link ⟨.ok, []⟩ s s) ∧
         (x.inService = false → Answers i c.link .ok s fun t => ∃ y : Group,
           t.group g = some y ∧ y.inService = true ∧ y.prot = x.prot ∧ y.working = x.working ∧ y.tracker = x.tracker ∧
           y.mismatch = x.mismatch ∧ (∀ e ∈ y.list, e.external = false ∧ e.cls ≠ .signalFail ∧ e.cls ≠ .signalDegrade) ∧
           (x.crossed = crossedCond s.cabling x →
             ((∃ e ∈ y.list, e.cls = .protFail) ↔ (s.line x.prot).rawFail = true ∨ x.crossed = true)) ∧
           Keeps [.time, .scan, .lines, .cabling, .due, .pending] s t) ∧
         (x.inService = true → s.prot.MembersApart → Answers o c.link .ok s fun t => ∃ y : Group,
           t.group g = some y ∧ y.inService = false ∧ y.list = [] ∧ y.restoreWait = none ∧ y.agreeWait = none ∧
           y.trialWait = none ∧ y.protoFault = false ∧ y.selected = 0 ∧ y.bridged = 0 ∧ y.signal = .quiet ∧ y.own = [] ∧
           y.tracker = x.tracker ∧ y.mismatch = x.mismatch ∧
           (∀ l, x.member l = true → t.prot.out.get l = ⟨.hold, .hold, idleWord⟩ ∧ t.prot.covered.get l = false) ∧
           Keeps [.time, .scan, .lines, .cabling, .due, .pending] s t)))) ∧
  (∀ (c : CtrlPort) (g : GroupIx) (x : Group) (w : LineIx) (s : State), s.links.ready c.link = true →
     s.group g = some x → x.inService = false → x.arch = .onePlusOne → x.working = [w] → w ≠ x.prot →
     (s.line w).presence = .present → (s.line w).lastGood.echoSelect = 2#2 →
     (s.line x.prot).rawFail = false → x.crossed = false → crossedCond s.cabling x = false →
     (s.port w).move = none → (s.port x.prot).move = none →
     Answers (.groupServiceIn c.link (BitVec.ofNat 8 g.val)) c.link .ok s fun t => ∃ y : Group,
       t.group g = some y ∧
       y.list = [⟨if x.revertive then .restoreWait else .holdSwitched, 1, .automatic, none⟩] ∧
       y.restoreWait = (if x.revertive then some 0 else none)) ∧
  (∀ (c : CtrlPort) (g : GroupIx) (x : Group) (k : ChanIx) (w : LineIx) (s : State), s.links.ready c.link = true →
     s.group g = some x → x.inService = false → x.arch = .oneToN → x.working[k.val]? = some w →
     (s.line w).presence = .present → (s.line w).lastGood.echoSelect = 2#2 →
     (s.line x.prot).presence = .present → (s.line x.prot).lastGood.echoBridge.toNat = BridgeCmd.code (.channel k) →
     (s.line x.prot).rawFail = false → x.crossed = false → crossedCond s.cabling x = false →
     (∀ l, x.member l = true → (s.port l).move = none) →
     Answers (.groupServiceIn c.link (BitVec.ofNat 8 g.val)) c.link .ok s fun t => ∃ y : Group,
       t.group g = some y ∧
       y.list = [⟨if x.revertive then .restoreWait else .holdSwitched, k.val + 1, .automatic, none⟩] ∧
       y.restoreWait = (if x.revertive then some 0 else none))

/-- R57, R58: the notices of moves enter and remove the CABLING request of a member line of an in-service group: LOCKOUT for the
protection line, FORCE of its channel for a working line. For every other line, and where the list already stands so, they do
nothing.
R34, R46, R62: a group's crossed flag takes its crossed condition; a change adds or removes PROT_FAIL in service, where the
protection line has no raw signal fail. -/
def Obligations.CablingFollowed : Prop :=
  (∀ (l : LineIx) (s : State),
     (s.prot.groupOf l = none → exec (.moveOpenedNotice l) s = .next s ∧ exec (.moveClosedNotice l) s = .next s) ∧
     (∀ (g : GroupIx) (x : Group), s.prot.groupOf l = some g → s.group g = some x →
       let holds := ∃ e ∈ x.list, e.source = .cabling ∧ e.line = some l
       (x.inService = false ∨ holds → exec (.moveOpenedNotice l) s = .next s) ∧
       (x.inService = false ∨ ¬ holds → exec (.moveClosedNotice l) s = .next s) ∧
       (x.inService = true → ¬ holds → Does (.moveOpenedNotice l) s fun t => ∃ y, t.group g = some y ∧
         (x.prot = l → ⟨.lockout, 0, .cabling, some l⟩ ∈ y.list) ∧
         (∀ k : ChanIx, x.prot ≠ l → x.chanOf l = some k → ⟨.force, k.val + 1, .cabling, some l⟩ ∈ y.list) ∧
         (∀ e ∈ x.list, e.weakExternal = false → e.keeps = false → e ∈ y.list)) ∧
       (x.inService = true → holds → Does (.moveClosedNotice l) s fun t => ∃ y, t.group g = some y ∧
         (∀ e ∈ y.list, ¬ (e.source = .cabling ∧ e.line = some l)) ∧
         (∀ e ∈ x.list, ¬ (e.source = .cabling ∧ e.line = some l) → e.weakExternal = false → e.keeps = false → e ∈ y.list)))) ∧
  (∀ (g : GroupIx) (s : State),
     (s.group g = none → exec (.crossedConditionChange g) s = .next s) ∧
     (∀ x : Group, s.group g = some x →
       let crossed : Prop := ∃ w ∈ x.working,
         (s.port w).state = .swapped x.prot ∧ (s.port x.prot).state = .swapped w
       (x.crossed = crossedCond s.cabling x → exec (.crossedConditionChange g) s = .next s) ∧
       Does (.crossedConditionChange g) s fun t => ∃ y, t.group g = some y ∧ (y.crossed = true ↔ crossed) ∧
         ((x.crossed = true ↔ ¬ crossed) → x.inService = true → (s.line x.prot).rawFail = false →
           ((∃ e ∈ y.list, e.cls = .protFail) ↔ crossed)) ∧
         (x.inService = false → y.list = x.list) ∧
         Keeps [.time, .scan, .lines, .cabling, .due, .pending] s t))

/-- R59, R60, R62, R63: a change of a line's summary values gives its channel's condition, which starts the hold-off where it was NONE,
and replaces a SIGNAL_FAIL entry by a SIGNAL_DEGRADE entry and back; a signal entry that ends is replaced by RESTORE_WAIT, or by
HOLD_SWITCHED in a non-revertive group, where it had won and its channel is selected, stated where it stood alone. On a protection
line it enters or removes PROT_FAIL. A line of no in-service group is not concerned. -/
def Obligations.SummaryTaken : Prop :=
  ∀ (l : LineIx) (s : State),
    (s.prot.role l = .none → exec (.lineSummaryChange l) s = .next s) ∧
    (∀ (g : GroupIx) (x : Group), s.group g = some x → x.inService = false → s.prot.groupOf l = some g →
      exec (.lineSummaryChange l) s = .next s) ∧
    (∀ (g : GroupIx) (k : ChanIx) (x : Group), s.prot.role l = .working g k → s.group g = some x → x.inService = true →
      let new : ChanCond := if (s.line l).rawFail then .sf else if (s.line l).raw.sd then .sd else .none
      Does (.lineSummaryChange l) s fun t => ∃ y, t.group g = some y ∧ (y.chans.get k).cond = new ∧
        (let cls : ReqClass := if new = .sf then .signalFail else .signalDegrade
         (x.chans.get k).cond ≠ .none → new ≠ .none → new ≠ (x.chans.get k).cond →
           (y.chans.get k).hold = (x.chans.get k).hold ∧
           ((∃ e ∈ x.list, ReqEntry.signalOf k e = true) →
             ⟨cls, k.val + 1, .automatic, none⟩ ∈ y.list ∧ ∀ e ∈ y.list, ReqEntry.signalOf k e = true → e.cls = cls) ∧
           ((∀ e ∈ x.list, ReqEntry.signalOf k e = false) → y.list = x.list)) ∧
        (let kept := ∃ w, s.winningEntry x = some w ∧ ReqEntry.signalOf k w = true ∧ x.selected = k.val + 1
         let keeper : ReqEntry := ⟨if x.revertive then .restoreWait else .holdSwitched, k.val + 1, .automatic, none⟩
         (x.chans.get k).cond ≠ .none → new = .none → (∃ e ∈ x.list, ReqEntry.signalOf k e = true) →
           (¬ kept → ∀ e ∈ y.list, e ∈ x.list) ∧
           (kept → (∀ e ∈ x.list, ReqEntry.signalOf k e = true) → y.list = [keeper] ∧
             y.restoreWait = (if x.revertive then some 0 else none))) ∧
        ((x.chans.get k).cond = .none → new ≠ .none → (y.chans.get k).hold = some 0 ∧ y.list = x.list) ∧
        ((x.chans.get k).cond ≠ .none → new = .none → (y.chans.get k).hold = none ∧
          ∀ e ∈ y.list, ReqEntry.signalOf k e = false)) ∧
    (∀ (g : GroupIx) (x : Group), s.prot.role l = .protection g → s.group g = some x → x.inService = true →
      Does (.lineSummaryChange l) s fun t => ∃ y, t.group g = some y ∧
        ((∃ e ∈ y.list, e.cls = .protFail) ↔ (s.line x.prot).rawFail = true ∨ x.crossed = true))

/-- R59, R64, R81, R82: the ends of the waits of an in-service group: a hold-off enters its channel's signal entry, the restore wait
removes RESTORE_WAIT, the trial wait removes the TRIAL, and the agreement wait sets PROTOCOL_FAULT unless the far-end request is
disregarded. A wait that is not running has no end. -/
def Obligations.WaitsEnd : Prop :=
  ∀ (g : GroupIx) (k : ChanIx) (x : Group) (s : State), s.group g = some x →
    (x.inService = false ∨ (x.chans.get k).hold = none → exec (.holdOffExpiry g k) s = .next s) ∧
    (x.inService = true → (x.chans.get k).hold.isSome = true → Does (.holdOffExpiry g k) s fun t => ∃ y,
      t.group g = some y ∧ y.chans.get k = ⟨(x.chans.get k).cond, none⟩ ∧
      ((x.chans.get k).cond = .sf → ⟨.signalFail, k.val + 1, .automatic, none⟩ ∈ y.list) ∧
      ((x.chans.get k).cond = .sd → ⟨.signalDegrade, k.val + 1, .automatic, none⟩ ∈ y.list) ∧
      ((x.chans.get k).cond = .none → y.list = x.list)) ∧
    (x.inService = false ∨ x.restoreWait = none → exec (.restoreWaitExpiry g) s = .next s) ∧
    (x.inService = true → x.restoreWait.isSome = true → Does (.restoreWaitExpiry g) s fun t => ∃ y,
      t.group g = some y ∧ y.restoreWait = none ∧ ∀ e ∈ y.list, e.cls ≠ .restoreWait) ∧
    (x.inService = false ∨ x.trialWait = none → exec (.trialWaitExpiry g) s = .next s) ∧
    (x.inService = true → x.trialWait.isSome = true → (∃ e ∈ x.list, e.external = true ∧ e.cls = .trial) →
      Does (.trialWaitExpiry g) s fun t => ∃ y,
        t.group g = some y ∧ y.trialWait = none ∧ ∀ e ∈ y.list, ¬ (e.external = true ∧ e.cls = .trial)) ∧
    (Instr.agreementWaitExpiry g ∉ s.fired →
      (x.inService = false ∨ x.agreeWait = none → exec (.agreementWaitExpiry g) s = .next s) ∧
      (x.inService = true → x.agreeWait.isSome = true → x.disregarded = false → Does (.agreementWaitExpiry g) s fun t =>
        t.group g = some { x with agreeWait := none, protoFault := true }) ∧
      (x.inService = true → x.agreeWait.isSome = true → x.disregarded = true → Does (.agreementWaitExpiry g) s fun t =>
        ∃ y, t.group g = some y ∧ y.list = x.list ∧
          (y.agreementCond = true → y.protoFault = x.protoFault ∧ (x.protoFault = false → y.agreeWait = some 0)) ∧
          (y.agreementCond = false → y.protoFault = false ∧ y.agreeWait = none)))

/-! ## Reference measurement (Section 5) -/

/-- R87, R88, R96, R100, R108: CANDIDATE SETUP and CANDIDATE LOCKOUT. A source that the candidate may not take is refused. A change of
the enabled flag or of the source forms the measurement anew; any other setup leaves it. Eligibility is formed again. That a
candidate not in use has no resolved line is the model's choice (log entry 36). -/
def Obligations.CandidateSet : Prop :=
  ∀ (c : CtrlPort) (x : CandidateSetupParams) (s : State), s.links.ready c.link = true →
    let i : Instr := .candidateSetup c.link x
    let names (d : CandIx) (source : CandSource) : Prop := x.cand.toNat = d.val + 1 ∧ (match source with
      | .none => x.sourceKind = 0#8 ∧ 2 ≤ d.val
      | .station => (x.sourceKind = 1#8 ∧ d = 0) ∨ (x.sourceKind = 2#8 ∧ d = 1)
      | .line l => x.sourceKind = 3#8 ∧ 2 ≤ d.val ∧ x.lineOrGroup.toNat = l.val
      | .group g k => x.sourceKind = 4#8 ∧ 2 ≤ d.val ∧ x.lineOrGroup.toNat = g.val ∧ x.channel.toNat = k.val + 1)
    let eligible (t : State) (y : Candidate) : Prop := y.eligible = true ↔
      y.state = .qualified ∧ y.enabled = true ∧ y.lockout = false ∧ y.effQual ≠ 15 ∧
      y.effQual ≤ t.clock.settings.shelfQuality
    ((∀ d source, ¬ names d source) ∨ 2 ≤ x.enabled.toNat → Exactly i c.link ⟨.outOfRange, []⟩ s s) ∧
    (∀ (d : CandIx) (source : CandSource) (on : Bool), names d source → x.enabled = (if on then 1#8 else 0#8) →
      let pr := max 1 (min 8 x.priority.toNat)
      let q := max 1 (min 14 x.quality.toNat)
      Answers i c.link (takenStatus (pr ≠ x.priority.toNat ∨ q ≠ x.quality.toNat)) s fun t =>
        let old := s.cand d
        let new := t.cand d
        new.enabled = on ∧ new.source = source ∧ new.priority = pr ∧ new.defQual = q ∧ new.lockout = old.lockout ∧
        new.lastQ = old.lastQ ∧ eligible t new ∧ (∀ e, e ≠ d → t.cand e = s.cand e) ∧
        (old.enabled = on → old.source = source → new.state = old.state ∧ new.reasons = old.reasons ∧
          new.goodRun = old.goodRun ∧ new.gate = old.gate ∧ new.resolved = old.resolved) ∧
        (old.enabled ≠ on ∨ old.source ≠ source → new.goodRun = 0 ∧ new.gate = false ∧ new.reasons.activity = false ∧
          new.reasons.offset = false ∧
          (on = true ∧ source ≠ .none → new.resolved = resolveSource s.prot source ∧
            new.state = (if new.reasons = Reasons.empty then .qualifying else .disqualified)) ∧
          (¬ (on = true ∧ source ≠ .none) → new.resolved = none ∧ new.state = .unused ∧ new.reasons = Reasons.empty)) ∧
        Keeps [.time, .scan, .lines, .cabling, .prot, .due, .pending] s t) ∧
    (∀ (d : CandIx) (on : Bool) (cand kind : Byte),
      let k : Byte := if on then 1#8 else 0#8
      (cand = 0#8 ∨ 6 < cand.toNat ∨ 2 ≤ kind.toNat →
        Exactly (.candidateLockout c.link cand kind) c.link ⟨.outOfRange, []⟩ s s) ∧
      (cand.toNat = d.val + 1 → (s.cand d).lockout = on → Exactly (.candidateLockout c.link cand k) c.link ⟨.ok, []⟩ s s) ∧
      (cand.toNat = d.val + 1 → (s.cand d).lockout ≠ on → Answers (.candidateLockout c.link cand k) c.link .ok s fun t =>
        (t.cand d).lockout = on ∧ (t.cand d).state = (s.cand d).state ∧ (t.cand d).reasons = (s.cand d).reasons ∧
        (t.cand d).goodRun = (s.cand d).goodRun ∧ (t.cand d).gate = (s.cand d).gate ∧ eligible t (t.cand d) ∧
        (∀ e, e ≠ d → t.cand e = s.cand e) ∧ Keeps [.time, .scan, .lines, .cabling, .prot, .due, .pending] s t))

/-- R92 to R95, R97, R98: edges, gates and the activity monitor. A completed gate gives Q = (40,960,000 × 2^g − C) × 2^(3−g), clamped to
±32,767, which adds or removes OFFSET and counts good gates; an edge removes ACTIVITY and begins a gate; a silent window adds
ACTIVITY and discards the gate. -/
def Obligations.GateApplied : Prop :=
  ∀ (c : CandIx) (count : Word32) (s : State),
    let old := s.cand c
    let follows (r : Reasons) (new : Candidate) : Prop := new.reasons = r ∧
      (r ≠ Reasons.empty → new.state = .disqualified ∧ new.goodRun = 0) ∧
      (r = Reasons.empty → old.reasons ≠ Reasons.empty → new.state = .qualifying ∧ new.goodRun = 0) ∧
      (r = Reasons.empty → old.reasons = Reasons.empty → new.state = old.state ∧ new.goodRun = old.goodRun)
    (old.hasInput = false → exec (.gateStartEdge c) s = .next s) ∧
    (old.hasInput = true → Does (.gateStartEdge c) s fun t =>
      follows { old.reasons with activity := false } (t.cand c) ∧ (t.cand c).gate = true ∧ (t.cand c).window = true ∧
      (t.cand c).lastQ = old.lastQ) ∧
    (old.window = false → exec (.activityWindowExpiry c) s = .next s) ∧
    (old.window = true → Does (.activityWindowExpiry c) s fun t =>
      follows { old.reasons with activity := true } (t.cand c) ∧ (t.cand c).gate = false ∧ (t.cand c).window = false ∧
      (t.cand c).lastQ = old.lastQ) ∧
    (old.gate = true → Does (.gateComplete c count) s fun t =>
      let new := t.cand c
      let d : Int := 40960000 * 2 ^ s.ref.gateExp - (count.toNat : Int)
      let q : Int := max (-32767) (min 32767 (d * 2 ^ (3 - s.ref.gateExp)))
      let cleared : Reasons := { old.reasons with offset := false }
      new.lastQ = q ∧ new.gate = true ∧
      (s.ref.disqualifyLimit < q.natAbs → follows { old.reasons with offset := true } new) ∧
      (q.natAbs ≤ s.ref.disqualifyLimit → q.natAbs ≤ s.ref.qualifyLimit →
        new.reasons = cleared ∧
        (cleared ≠ Reasons.empty → new.state = .disqualified ∧ new.goodRun = 0) ∧
        (cleared = Reasons.empty →
          let run := min 15 ((if old.reasons = Reasons.empty then old.goodRun else 0) + 1)
          let state := if old.reasons = Reasons.empty then old.state else .qualifying
          new.goodRun = run ∧
          new.state = (if state = .qualifying ∧ s.ref.qualifyCount ≤ run then .qualified else state))) ∧
      (q.natAbs ≤ s.ref.disqualifyLimit → s.ref.qualifyLimit < q.natAbs →
        new.reasons = old.reasons ∧ new.state = old.state ∧
        new.goodRun = (if old.reasons = Reasons.empty then 0 else old.goodRun)))

/-- R89 to R91, R97: what the other blocks offer to the candidates. A group's selection moves the resolved line of the candidates that
follow it; a line's defects and its port's state give LINE_DEFECT and CABLING to the candidates on that line. No other candidate
changes. -/
def Obligations.CandidateOffers : Prop :=
  ∀ (g : GroupIx) (l : LineIx) (c : CandIx) (s : State),
    let old := s.cand c
    let state (r : Reasons) (new : Candidate) : Prop := new.reasons = r ∧
      new.state = (if r ≠ Reasons.empty then .disqualified else if old.reasons = Reasons.empty then old.state else .qualifying)
    let defect := (s.line l).raw.lol || (s.line l).raw.lfa || (s.line l).raw.ffi || (s.line l).raw.cardUnreadable ||
      (s.line l).presence != .present
    (Does (.lineDefectChange l) s fun t =>
      (old.resolved = some l → state { old.reasons with lineDefect := defect } (t.cand c)) ∧
      (old.resolved ≠ some l → t.cand c = old)) ∧
    (Does (.cablingStateOffer l) s fun t =>
      (old.resolved = some l → state { old.reasons with cabling := decide ((s.port l).state ≠ .agreed) } (t.cand c)) ∧
      (old.resolved ≠ some l → t.cand c = old)) ∧
    (Does (.selectionOffer g) s fun t =>
      ((∀ k, old.source ≠ .group g k) ∨ old.enabled = false → t.cand c = old) ∧
      (∀ k : ChanIx, old.source = .group g k → old.enabled = true →
        (∀ x w, s.group g = some x → x.inService = true → x.working[k.val]? = some w →
          (t.cand c).resolved = some (if x.selected = k.val + 1 then x.prot else w) ∧
          ((t.cand c).resolved ≠ old.resolved → (t.cand c).gate = false ∧ (t.cand c).window = true ∧
            (t.cand c).reasons.source = false)) ∧
        ((∀ x, s.group g = some x → x.inService = true → x.working[k.val]? = none) →
          (t.cand c).resolved = none ∧
          (old.resolved ≠ none → (t.cand c).gate = false ∧ (t.cand c).window = false ∧
            (t.cand c).reasons = { old.reasons with activity := false, source := true, lineDefect := false, cabling := false } ∧
            (t.cand c).state = .disqualified))))

/-! ## The clock (Section 6) -/

/-- R111 to R114: a Q offered for the selected candidate in ACQUIRING or LOCKED moves S by Q / 2^k, rounded with ties away from zero
and clamped; four gates in a row within the lock threshold lock the loop; a gate above the unlock threshold unlocks it; any other gate
in LOCKED moves H by a step rounded down, and counts in the history. Any other offer is ignored. -/
def Obligations.SteeringApplied : Prop :=
  ∀ (c : CandIx) (q : Int) (s : State),
    let k := s.clock
    let steers := k.selected = some c ∧ (k.loop = .acquiring ∨ k.loop = .locked)
    let d : Int := 2 ^ k.settings.gainShift
    let delta : Int := if 0 ≤ q then (2 * q + d) / (2 * d) else -((2 * -q + d) / (2 * d))
    let sum := k.steer + delta
    let S := max (-32767) (min 32767 sum)
    let H := k.average + (256 * S - k.average) / 2 ^ k.settings.averageShift
    (¬ steers → exec (.qOffer c q) s = .next s) ∧
    (steers → Does (.qOffer c q) s fun t =>
      t.clock.steer = S ∧ t.clock.steerLimit = decide (sum ≠ S) ∧ t.clock.selected = some c ∧
      (k.loop = .acquiring → t.clock.average = k.average ∧
        (k.settings.lockThreshold < q.natAbs → t.clock.loop = .acquiring ∧ t.clock.lockRun = 0 ∧
          t.clock.history = k.history) ∧
        (q.natAbs ≤ k.settings.lockThreshold → k.lockRun < 3 → t.clock.loop = .acquiring ∧
          t.clock.lockRun = k.lockRun + 1 ∧ t.clock.history = k.history) ∧
        (q.natAbs ≤ k.settings.lockThreshold → 3 ≤ k.lockRun → t.clock.loop = .locked ∧ t.clock.lockRun = 0 ∧
          t.clock.history = 0 ∧ t.clock.lastLocked = (s.cand c).effQual)) ∧
      (k.loop = .locked →
        (k.settings.unlockThreshold < q.natAbs → t.clock.loop = .acquiring ∧ t.clock.lockRun = 0 ∧
          t.clock.average = k.average ∧ t.clock.history = k.history) ∧
        (q.natAbs ≤ k.settings.unlockThreshold → t.clock.loop = .locked ∧
          t.clock.average = max (-8388352) (min 8388352 H) ∧ t.clock.history = min 65535 (k.history + 1))) ∧
      Keeps [.time, .scan, .lines, .cabling, .prot, .ref, .due, .pending] s t)

/-- R105, R106, R109, R110, R116, R117: the selection made again. The request slot comes first; then a non-revertive shelf keeps an
eligible selection; otherwise the eligible candidate of lowest quality code, priority and index is taken. The loop, S, the ages and
the announced quality follow the change. The quality announced in HOLDOVER is formed from the last locked quality before the offer:
that a quality change which moves the selection away in LOCKED is not recorded first is the model's choice (log entry 41), since
R116 and R106 leave that order open. -/
def Obligations.SelectionMade : Prop :=
  ∀ (offered : CandIx) (s : State), Does (.candidateOffer offered) s fun t =>
    let k := s.clock
    let ok (c : CandIx) : Prop := (s.cand c).eligible = true
    let before (c d : CandIx) : Prop := (s.cand c).effQual < (s.cand d).effQual ∨
      ((s.cand c).effQual = (s.cand d).effQual ∧ ((s.cand c).priority < (s.cand d).priority ∨
        ((s.cand c).priority = (s.cand d).priority ∧ c < d)))
    let first : Prop := (t.clock.selected = none ↔ ∀ c, ¬ ok c) ∧
      ∀ c, t.clock.selected = some c → ok c ∧ ∀ d, ok d → d ≠ c → before c d
    let enough := 2 ^ k.settings.averageShift ≤ k.history
    let word := if 0 ≤ k.average then (2 * k.average + 256) / 512 else -((2 * -k.average + 256) / 512)
    (k.slot = .forceHoldover → t.clock.selected = none) ∧
    (∀ c, k.slot = .forceRef c → (ok c → t.clock.selected = some c) ∧ (¬ ok c → t.clock.selected = none)) ∧
    (k.slot = .none → k.settings.revertive = false → ∀ c, k.selected = some c → ok c → t.clock.selected = some c) ∧
    (k.slot = .none → (k.settings.revertive = true ∨ ∀ c, k.selected = some c → ¬ ok c) → first) ∧
    (t.clock.selected = k.selected → t.clock.loop = k.loop ∧ t.clock.steer = k.steer) ∧
    (∀ c, t.clock.selected = some c → k.selected ≠ some c → t.clock.loop = .acquiring ∧ t.clock.lockRun = 0 ∧
      t.clock.steer = (if k.loop = .locked ∧ enough then word else k.steer) ∧
      (k.loop = .holdover → t.clock.ageCount = 0 ∧ t.clock.aged = false)) ∧
    (t.clock.selected = none → k.selected ≠ none →
      (enough → t.clock.loop = .holdover ∧ t.clock.steer = word ∧ t.clock.ageCount = 0 ∧ t.clock.aged = false) ∧
      (¬ enough → t.clock.loop = .freeRun ∧ t.clock.steer = k.settings.freeRun)) ∧
    t.clock.average = k.average ∧ t.clock.history = k.history ∧
    (t.clock.loop = .freeRun → t.clock.ownQual = k.settings.shelfQuality ∧ t.clock.feeding = none) ∧
    (t.clock.loop = .holdover → t.clock.feeding = none ∧ t.clock.ownQual =
      (if t.clock.aged then k.settings.shelfQuality else max k.lastLocked k.settings.holdoverQuality)) ∧
    (∀ c, t.clock.loop = .acquiring ∨ t.clock.loop = .locked → t.clock.selected = some c →
      t.clock.ownQual = (s.cand c).effQual ∧ t.clock.feeding = (s.cand c).resolved) ∧
    Keeps [.time, .scan, .lines, .cabling, .prot, .ref, .due, .pending] s t

/-- R88, R104, R107: CLOCK SETUP takes every setting, each clamped to its range; CLOCK REQUEST fills the slot. -/
def Obligations.ClockCommands : Prop :=
  ∀ (c : CtrlPort) (x : ClockSetupParams) (kind cand : Byte) (s : State), s.links.ready c.link = true →
    (2 ≤ x.pullSign.toNat ∨ 2 ≤ x.revertive.toNat → Exactly (.clockSetup c.link x) c.link ⟨.outOfRange, []⟩ s s) ∧
    (∀ negative revertive : Bool, x.pullSign = (if negative then 1#8 else 0#8) → x.revertive = (if revertive then 1#8 else 0#8) →
      Does (.clockSetup c.link x) s fun t =>
        let lim (lo hi n : Nat) := max lo (min hi n)
        let k := t.clock.settings
        let r := t.ref
        t.response c.link = some ⟨takenStatus (¬ (r.gateExp = x.gateExp.toNat ∧ r.qualifyLimit = x.qualifyLimit.toNat ∧
          r.disqualifyLimit = x.disqualifyLimit.toNat ∧ r.qualifyCount = x.qualifyCount.toNat ∧
          k.gainShift = x.gainShift.toNat ∧ k.averageShift = x.averageShift.toNat ∧
          k.lockThreshold = x.lockThreshold.toNat ∧ k.unlockThreshold = x.unlockThreshold.toNat ∧
          k.freeRun = x.freeRun.toInt ∧ k.shelfQuality = x.shelfQuality.toNat ∧
          k.holdoverQuality = x.holdoverQuality.toNat ∧ k.ageHours = x.ageLimit.toNat)), []⟩ ∧
        r.gateExp = lim 0 3 x.gateExp.toNat ∧ r.qualifyLimit = lim 1 32767 x.qualifyLimit.toNat ∧
        r.disqualifyLimit = lim r.qualifyLimit 32767 x.disqualifyLimit.toNat ∧
        r.qualifyCount = lim 1 15 x.qualifyCount.toNat ∧
        k.gainShift = lim 0 7 x.gainShift.toNat ∧ k.averageShift = lim 2 10 x.averageShift.toNat ∧
        k.lockThreshold = lim 1 32767 x.lockThreshold.toNat ∧
        k.unlockThreshold = lim k.lockThreshold 32767 x.unlockThreshold.toNat ∧
        k.freeRun = max (-32767) (min 32767 x.freeRun.toInt) ∧ k.positive = !negative ∧
        k.shelfQuality = lim 1 14 x.shelfQuality.toNat ∧
        k.holdoverQuality = lim 1 k.shelfQuality x.holdoverQuality.toNat ∧ k.revertive = revertive ∧
        k.ageHours = lim 1 72 x.ageLimit.toNat ∧
        (∀ d, (t.cand d).gate = ((s.cand d).gate && r.gateExp == s.ref.gateExp) ∧ (t.cand d).state = (s.cand d).state ∧
          (t.cand d).reasons = (s.cand d).reasons ∧ (t.cand d).goodRun = (s.cand d).goodRun) ∧
        (s.clock.loop = .freeRun → s.clock.selected = none → t.clock.steer = k.freeRun) ∧
        t.clock.average = s.clock.average ∧ t.clock.history = s.clock.history ∧
        Keeps [.time, .scan, .lines, .cabling, .prot, .due, .pending] s t) ∧
    (let names (r : ClockReq) : Prop := match r with
       | .none => kind = 0#8
       | .forceRef d => kind = 1#8 ∧ cand.toNat = d.val + 1
       | .forceHoldover => kind = 2#8
     ((∀ r, ¬ names r) → Exactly (.clockRequest c.link kind cand) c.link ⟨.outOfRange, []⟩ s s) ∧
     (names .none → s.clock.slot = .none → Exactly (.clockRequest c.link kind cand) c.link ⟨.ok, []⟩ s s) ∧
     (∀ r, names r → ¬ (r = .none ∧ s.clock.slot = .none) → Answers (.clockRequest c.link kind cand) c.link .ok s fun t =>
        t.clock.slot = r ∧ t.clock.issuer = (if r = .none then none else some c.link) ∧ t.ref = s.ref ∧
        t.clock.settings = s.clock.settings ∧ Keeps [.time, .scan, .lines, .cabling, .prot, .due, .pending] s t))

/-- R115, R117, R118: the age limit in HOLDOVER sets HOLDOVER_AGED and announces the shelf quality; the resolved line of the selected
candidate marks the feeding line; a steering frame takes its high count from S and the pull sign. -/
def Obligations.ClockEvents : Prop :=
  ∀ (c : CandIx) (s : State),
    (s.clock.loop ≠ .holdover ∨ s.clock.aged = true → exec .holdoverAgeLimit s = .next s) ∧
    (s.clock.loop = .holdover → s.clock.aged = false → Does .holdoverAgeLimit s fun t =>
      t.clock.aged = true ∧ t.clock.ownQual = s.clock.settings.shelfQuality ∧ t.clock.loop = .holdover ∧
      t.clock.steer = s.clock.steer ∧ t.clock.ageCount = s.clock.ageCount ∧
      Keeps [.time, .scan, .lines, .cabling, .prot, .ref, .due, .pending] s t) ∧
    (s.clock.selected ≠ some c → exec (.resolvedLineOffer c) s = .next s) ∧
    (s.clock.selected = some c → exec (.resolvedLineOffer c) s = .next { s with clock := { s.clock with
      feeding := if s.clock.loop = .acquiring ∨ s.clock.loop = .locked then (s.cand c).resolved else none } }) ∧
    exec .steerFrameStart s = .next { s with clock := { s.clock with
      highCount := (32768 + (if s.clock.settings.positive then s.clock.steer else -s.clock.steer)).toNat } }

/-! ## Alarms (Section 7) -/

/-- R125, R126, R128, R131, R133, R134: a raise. An ACTIVE entry of a type that is not transient stays as it is; another entry is
raised again in place; without an entry one joins at the end, evicting the CLEARED entry of lowest cleared-at from a full table; with
48 entries and none CLEARED the alarm is not recorded, and TABLE_FULL is raised. -/
def Obligations.AlarmRaised : Prop :=
  ∀ (a : Alarm) (s : State), (s.alarms.entries.map (·.alarm)).Nodup →
    let table := s.alarms
    let now := s.time.seconds
    let sa := table.saFor a
    let severity := if sa = some false then (table.profile.get (Alarm.typeIx a)).nsa else (table.profile.get (Alarm.typeIx a)).sa
    let fresh : AlarmEntry := ⟨a, severity, true, false, now, none, 1, sa⟩
    let absent := ∀ e ∈ table.entries, e.alarm ≠ a
    let lowest (v : AlarmEntry) (older younger : List AlarmEntry) : Prop := ∃ n, v.active = false ∧ v.clearedAt = some n ∧
      (∀ e ∈ older, e.active = false → ∀ m, e.clearedAt = some m → n.toNat < m.toNat) ∧
      (∀ e ∈ younger, e.active = false → ∀ m, e.clearedAt = some m → n.toNat ≤ m.toNat)
    let keeps := Keeps [.time, .scan, .lines, .cabling, .prot, .ref, .clock, .due, .pending] s
    (∀ (older younger : List AlarmEntry) (e : AlarmEntry), table.entries = older ++ e :: younger → e.alarm = a →
      (e.active = true → Alarm.transient a = false → exec (.alarmConditionRaise a) s = .next s) ∧
      (e.active = false ∨ Alarm.transient a = true → Does (.alarmConditionRaise a) s fun t => keeps t ∧
        t.alarms = { table with entries := older ++ ⟨a, severity, true, false, now, none, min 255 (e.count + 1), sa⟩ :: younger })) ∧
    (absent → table.entries.length < 48 → Does (.alarmConditionRaise a) s fun t => keeps t ∧
      t.alarms = { table with entries := table.entries ++ [fresh] }) ∧
    (absent → 48 ≤ table.entries.length →
      (∀ older v younger, table.entries = older ++ v :: younger → lowest v older younger →
        Does (.alarmConditionRaise a) s fun t => keeps t ∧
          t.alarms = { table with entries := older ++ younger ++ [fresh] }) ∧
      ((∀ e ∈ table.entries, e.active = true) → Does (.alarmConditionRaise a) s fun t => keeps t ∧
        t.alarms.entries = table.entries ∧ t.alarms.fixed.state = .active ∧
        (table.fixed.state = .active → t.alarms.fixed = table.fixed) ∧
        (table.fixed.state = .idle → t.alarms.fixed.count = 1) ∧
        (table.fixed.state = .cleared → t.alarms.fixed.count = min 255 (table.fixed.count + 1)) ∧
        (table.fixed.state ≠ .active → t.alarms.fixed.acked = false ∧ t.alarms.fixed.raisedAt = now ∧
          t.alarms.fixed.severity = (table.profile.get tableFullIx).sa)))

/-- R127 to R130: a clear and the three forms of acknowledgement. An ACTIVE entry becomes CLEARED and, if it was acknowledged, leaves
the table; acknowledging marks an ACTIVE entry and removes a CLEARED one and a MOVE_EXPIRED one. Only a refill pass, which follows a
removal while TABLE_FULL is ACTIVE, can add entries behind these. -/
def Obligations.AlarmClearedAndAcknowledged : Prop :=
  ∀ (a : Alarm) (p : LinkPort) (n : Byte) (s : State), (s.alarms.entries.map (·.alarm)).Nodup →
    let table := s.alarms
    let full := table.fixed.state = .active
    let keeps := Keeps [.time, .scan, .lines, .cabling, .prot, .ref, .clock, .due, .pending] s
    let leaves (e : AlarmEntry) : Bool := !e.active || Alarm.transient e.alarm
    let after (named : AlarmEntry → Bool) : List AlarmEntry := table.entries.filterMap fun e =>
      if named e && !e.acked then (if leaves e then none else some { e with acked := true }) else some e
    let acks (i : Instr) (named : AlarmEntry → Bool) (onFixed : Prop) : Prop := s.links.ready p = true → Answers i p .ok s fun t =>
      keeps t ∧ after named <+: t.alarms.entries ∧
      ((full → ∀ e ∈ table.entries, named e = true → e.acked = false → leaves e = false) →
        t.alarms.entries = after named ∧
        (onFixed → full → t.alarms.fixed = { table.fixed with acked := true }) ∧
        (onFixed → table.fixed.state = .cleared → table.fixed.acked = false → t.alarms.fixed.state = .idle) ∧
        (¬ onFixed → t.alarms.fixed = table.fixed))
    ((∀ e ∈ table.entries, e.alarm = a → e.active = false ∨ Alarm.transient a = true) →
      exec (.alarmConditionClear a) s = .next s) ∧
    (∀ older e younger, table.entries = older ++ e :: younger → e.alarm = a → e.active = true → Alarm.transient a = false →
      Does (.alarmConditionClear a) s fun t => keeps t ∧
        (e.acked = false → t.alarms = { table with
          entries := older ++ { e with active := false, clearedAt := some s.time.seconds } :: younger }) ∧
        (e.acked = true → older ++ younger <+: t.alarms.entries ∧ (¬ full → t.alarms.entries = older ++ younger))) ∧
    (table.entries.length < n.toNat ∨ (n = 0#8 ∧ table.fixed.state = .idle) → s.links.ready p = true →
      Exactly (.alarmAcknowledgeIndex p n) p ⟨.outOfRange, []⟩ s s) ∧
    (n = 0#8 → table.fixed.state ≠ .idle → acks (.alarmAcknowledgeIndex p n) (fun _ => false) True) ∧
    (∀ e, 1 ≤ n.toNat → table.entries[n.toNat - 1]? = some e →
      acks (.alarmAcknowledgeIndex p n) (fun d => d.alarm == e.alarm) False) ∧
    (∀ v : Severity, n.toNat = Severity.code v →
      acks (.alarmAcknowledgeSeverity p n) (fun d => d.severity == v) (table.fixed.severity = v)) ∧
    (n = 0#8 ∨ 4 < n.toNat → s.links.ready p = true →
      Exactly (.alarmAcknowledgeSeverity p n) p ⟨.outOfRange, []⟩ s s) ∧
    acks (.alarmAcknowledgeAll p) (fun _ => true) True

/-- R123, R131, R132: a line's coverage and a type's severities are taken, and every ACTIVE entry concerned is graded again: a rise in
severity undoes its acknowledgement. A CLEARED entry is graded again only by SEVERITY SETUP, with the flag it holds. -/
def Obligations.AlarmsGraded : Prop :=
  ∀ (l : LineIx) (covered : Bool) (c : CtrlPort) (type sa nsa : Byte) (s : State),
    let regraded (e : AlarmEntry) (new : Severity) (flag : Option Bool) : AlarmEntry :=
      { e with severity := new, sa := flag, acked := e.acked && !decide (Severity.code new < Severity.code e.severity) }
    (Does (.coverageChange l covered) s fun t =>
      t.alarms.profile = s.alarms.profile ∧ t.alarms.fixed = s.alarms.fixed ∧
      t.alarms.grading = s.alarms.grading.set l.val covered ∧
      t.alarms.entries = s.alarms.entries.map (fun e => if e.active = true ∧ Alarm.line? e.alarm = some l then
        regraded e (if covered then (s.alarms.profile.get (Alarm.typeIx e.alarm)).nsa
          else (s.alarms.profile.get (Alarm.typeIx e.alarm)).sa) (some !covered) else e) ∧
      Keeps [.time, .scan, .lines, .cabling, .prot, .ref, .clock, .due, .pending] s t) ∧
    (type = 0#8 ∨ 24 < type.toNat ∨ sa = 0#8 ∨ 4 < sa.toNat ∨ (type.toNat ≤ 15 ∧ (nsa = 0#8 ∨ 4 < nsa.toNat)) →
      s.links.ready c.link = true →
      Exactly (.severitySetup c.link type sa nsa) c.link ⟨.outOfRange, []⟩ s s) ∧
    (∀ (i : Fin 24) (x y : Severity), type.toNat = i.val + 1 → sa.toNat = Severity.code x →
      (i.val < 15 → nsa.toNat = Severity.code y) → (15 ≤ i.val → y = x) → s.links.ready c.link = true →
      Answers (.severitySetup c.link type sa nsa) c.link .ok s fun t =>
        let grade (e : AlarmEntry) (flag : Option Bool) : Severity := if flag = some false then y else x
        t.alarms.profile = s.alarms.profile.set i.val ⟨x, y⟩ ∧ t.alarms.grading = s.alarms.grading ∧
        t.alarms.entries = s.alarms.entries.map (fun e =>
          if Alarm.typeIx e.alarm ≠ i then e
          else if e.active then regraded e (grade e (s.alarms.saFor e.alarm)) (s.alarms.saFor e.alarm)
          else { e with severity := grade e e.sa }) ∧
        (i.val ≠ 23 → t.alarms.fixed = s.alarms.fixed) ∧ (i.val = 23 → t.alarms.fixed.severity = x) ∧
        Keeps [.time, .scan, .lines, .cabling, .prot, .ref, .clock, .due, .pending] s t)

/-! ## The office alarm outputs (Section 8) -/

/-- R147: CADENCE LOAD. The step form writes its steps to the pattern memory, each duration clamped to 1 to 64; the descriptor form
writes one descriptor with its values clamped, and marks a restart where that descriptor is being played. -/
def Obligations.CadenceLoaded : Prop :=
  ∀ (c : CtrlPort) (first : Byte) (steps : List RawStep) (x : DescriptorParams) (s : State), s.links.ready c.link = true →
    let i : Instr := .cadenceLoadStepForm c.link first steps
    let d : Instr := .cadenceLoadDescriptorForm c.link x
    let codes := ∀ y ∈ steps, y.kind.toNat ≤ 1 ∧ y.tie.toNat ≤ 1
    let fits := first.toNat < 32 ∧ 1 ≤ steps.length ∧ steps.length ≤ 16 ∧ first.toNat + steps.length ≤ 32
    let lim (lo hi n : Nat) := max lo (min hi n)
    (¬ (codes ∧ fits) → Exactly i c.link ⟨.outOfRange, []⟩ s s) ∧
    (codes → fits → Answers i c.link (takenStatus (∃ y ∈ steps, y.duration.toNat = 0 ∨ 64 < y.duration.toNat)) s fun t =>
      t.office = { s.office with memory := t.office.memory } ∧
      (∀ j : Fin 32, t.office.memory.get j = (if j.val < first.toNat then s.office.memory.get j
        else match steps[j.val - first.toNat]? with
          | some y => ⟨y.kind == 1#8, lim 1 64 y.duration.toNat, y.tie == 1#8⟩
          | none => s.office.memory.get j)) ∧
      Keeps [.time, .scan, .lines, .cabling, .prot, .ref, .clock, .alarms, .due, .pending] s t) ∧
    (4 < x.desc.toNat ∨ 31 < x.start.toNat ∨ 1 < x.mode.toNat → Exactly d c.link ⟨.outOfRange, []⟩ s s) ∧
    (∀ (k : DescIx) (start : Fin 32) (once : Bool), x.desc.toNat = k.ix.val → x.start.toNat = start.val →
      x.mode = (if once then 1#8 else 0#8) →
      let length := lim 1 32 x.length.toNat
      let tone := lim 3 255 x.tone.toNat
      let tempo := lim 0 31 x.tempo.toNat
      Exactly d c.link ⟨takenStatus (length ≠ x.length.toNat ∨ tone ≠ x.tone.toNat ∨ tempo ≠ x.tempo.toNat), []⟩ s
        { s with office := { s.office with
          descs := s.office.descs.set k.ix.val ⟨start, length, !once, tone, tempo⟩
          restart := s.office.restart || decide (s.office.playing = some k) } })

/-- R139 to R142: the relays follow the ACTIVE entries; a cutoff, by command or by button, records the highest unacknowledged severity
and silences the alarm; a raise or a rise of that severity or a higher one, or the end of the last unacknowledged entry, ends it. -/
def Obligations.OfficeFollowsTable : Prop :=
  ∀ (items : List OfferItem) (p : LinkPort) (s : State),
    let active := s.alarms.activeSeverities
    let unacked := s.alarms.unackedSeverities
    let top (o : Option Severity) : Prop := match o with
      | none => unacked = []
      | some v => v ∈ unacked ∧ ∀ u ∈ unacked, Severity.code v ≤ Severity.code u
    let ends (v : Severity) : Prop := unacked = [] ∨ ∃ x ∈ items, (x.kind = .raise ∨ x.kind = .rise) ∧
      ∃ u, s.alarms.sounding x.alarm = some u ∧ Severity.code u ≤ Severity.code v
    let others := Keeps [.time, .scan, .lines, .cabling, .prot, .ref, .clock, .alarms, .due, .pending] s
    let silenced (t : State) : Prop := top t.office.aco ∧ t.office.required = none ∧ others t
    (Does (.officeOffer items) s fun t =>
      (t.office.relayCrit = true ↔ .critical ∈ active) ∧ (t.office.relayMaj = true ↔ .major ∈ active) ∧
      (t.office.relayMin = true ↔ .minor ∈ active) ∧
      (∀ v, s.office.aco = some v → (ends v → t.office.aco = none) ∧ (¬ ends v → t.office.aco = some v)) ∧
      (s.office.aco = none → t.office.aco = none) ∧
      t.office.required = (if t.office.aco.isSome then none else if .critical ∈ unacked then some .critical
        else if .major ∈ unacked then some .major else if .minor ∈ unacked then some .minor else none) ∧ others t) ∧
    (s.links.ready p = true → Answers (.alarmCutoff p) p .ok s silenced) ∧
    (s.office.buttonHigh = true → Does .pushbuttonPress s fun t =>
      silenced t ∧ t.office.buttonHigh = false ∧ t.office.buttonCount = 0) ∧
    (s.office.buttonHigh = false → exec .pushbuttonPress s = .next s) ∧
    (s.office.buttonHigh = true → exec .pushbuttonRelease s = .next s) ∧
    (s.office.buttonHigh = false → exec .pushbuttonRelease s =
      .next { s with office := { s.office with buttonHigh := true, buttonCount := 0 } })

/-- R144 to R147: a step ends. A switch to another required pattern comes first, then a marked restart, then the next step; a pattern
without a further step is complete. A chirp starts on an idle engine only. -/
def Obligations.CadencePlayed : Prop :=
  ∀ (ch : Chirp) (s : State),
    let o := s.office
    let chirp : DescIx := match ch with
      | .ack => .ackChirp
      | .move => .moveChirp
    let started (d : DescIx) (t : State) : Prop :=
      t.office.playing = some d ∧ t.office.restart = false ∧
      t.office.active = some ⟨(o.descs.get d.ix).start, o.memory.get (o.descs.get d.ix).start, (o.descs.get d.ix).tone,
        (o.descs.get d.ix).tempo⟩
    let stopped (t : State) : Prop := t.office.playing = none ∧ t.office.active = none ∧ t.office.buffer = none
    (o.playing ≠ none → exec (.chirpRequest ch) s = .next s) ∧
    (o.playing = none → 1 ≤ (o.descs.get chirp.ix).length → Does (.chirpRequest ch) s (started chirp)) ∧
    (o.playing = none → exec .cadenceStepEnd s = .next s) ∧
    (∀ d, o.playing = some d → Does .cadenceStepEnd s fun t =>
      let leave : Prop := if d = .ackChirp ∨ d = .moveChirp then o.required ≠ none else o.required ≠ some d
      (leave → o.required = none → stopped t) ∧
      (∀ r, leave → o.required = some r → 1 ≤ (o.descs.get r.ix).length → started r t) ∧
      (¬ leave → o.restart = true → 1 ≤ (o.descs.get d.ix).length → started d t) ∧
      (¬ leave → o.restart = false → o.buffer = none → stopped t) ∧
      (¬ leave → o.restart = false → ∀ j st, o.buffer = some (j, st) → t.office.playing = some d ∧
        t.office.active = some ⟨j, st, (o.descs.get d.ix).tone, (o.descs.get d.ix).tempo⟩) ∧
      t.office.required = o.required ∧ t.office.memory = o.memory ∧ t.office.descs = o.descs ∧ t.office.aco = o.aco)
end

