-- ==== Sys2Proof/Laws/State.lean ====
section
/-!
SUPPORT. Laws/State.lean: one lemma for each field and each update of the state: an update of one field leaves the others, and
gives its own field the value named. No later proof has to unfold a record update.
-/
namespace Sys2Proof.Machine

variable (s : State)

/-! ### setLine -/

@[simp] theorem State.setLine_time (l : LineIx) (x : Line) : (s.setLine l x).time = s.time := rfl
@[simp] theorem State.setLine_scan (l : LineIx) (x : Line) : (s.setLine l x).scan = s.scan := rfl
@[simp] theorem State.setLine_cabling (l : LineIx) (x : Line) : (s.setLine l x).cabling = s.cabling := rfl
@[simp] theorem State.setLine_prot (l : LineIx) (x : Line) : (s.setLine l x).prot = s.prot := rfl
@[simp] theorem State.setLine_ref (l : LineIx) (x : Line) : (s.setLine l x).ref = s.ref := rfl
@[simp] theorem State.setLine_clock (l : LineIx) (x : Line) : (s.setLine l x).clock = s.clock := rfl
@[simp] theorem State.setLine_alarms (l : LineIx) (x : Line) : (s.setLine l x).alarms = s.alarms := rfl
@[simp] theorem State.setLine_office (l : LineIx) (x : Line) : (s.setLine l x).office = s.office := rfl
@[simp] theorem State.setLine_links (l : LineIx) (x : Line) : (s.setLine l x).links = s.links := rfl
@[simp] theorem State.setLine_free (l : LineIx) (x : Line) : (s.setLine l x).free = s.free := rfl
@[simp] theorem State.setLine_fired (l : LineIx) (x : Line) : (s.setLine l x).fired = s.fired := rfl
@[simp] theorem State.setLine_due (l : LineIx) (x : Line) : (s.setLine l x).due = s.due := rfl
@[simp] theorem State.setLine_pending (l : LineIx) (x : Line) : (s.setLine l x).pending = s.pending := rfl

/-! ### setPort -/

@[simp] theorem State.setPort_time (l : LineIx) (x : CablePort) : (s.setPort l x).time = s.time := rfl
@[simp] theorem State.setPort_scan (l : LineIx) (x : CablePort) : (s.setPort l x).scan = s.scan := rfl
@[simp] theorem State.setPort_lines (l : LineIx) (x : CablePort) : (s.setPort l x).lines = s.lines := rfl
@[simp] theorem State.setPort_prot (l : LineIx) (x : CablePort) : (s.setPort l x).prot = s.prot := rfl
@[simp] theorem State.setPort_ref (l : LineIx) (x : CablePort) : (s.setPort l x).ref = s.ref := rfl
@[simp] theorem State.setPort_clock (l : LineIx) (x : CablePort) : (s.setPort l x).clock = s.clock := rfl
@[simp] theorem State.setPort_alarms (l : LineIx) (x : CablePort) : (s.setPort l x).alarms = s.alarms := rfl
@[simp] theorem State.setPort_office (l : LineIx) (x : CablePort) : (s.setPort l x).office = s.office := rfl
@[simp] theorem State.setPort_links (l : LineIx) (x : CablePort) : (s.setPort l x).links = s.links := rfl
@[simp] theorem State.setPort_free (l : LineIx) (x : CablePort) : (s.setPort l x).free = s.free := rfl
@[simp] theorem State.setPort_fired (l : LineIx) (x : CablePort) : (s.setPort l x).fired = s.fired := rfl
@[simp] theorem State.setPort_due (l : LineIx) (x : CablePort) : (s.setPort l x).due = s.due := rfl
@[simp] theorem State.setPort_pending (l : LineIx) (x : CablePort) : (s.setPort l x).pending = s.pending := rfl

/-! ### setGroup -/

@[simp] theorem State.setGroup_time (g : GroupIx) (x : Option Group) : (s.setGroup g x).time = s.time := rfl
@[simp] theorem State.setGroup_scan (g : GroupIx) (x : Option Group) : (s.setGroup g x).scan = s.scan := rfl
@[simp] theorem State.setGroup_lines (g : GroupIx) (x : Option Group) : (s.setGroup g x).lines = s.lines := rfl
@[simp] theorem State.setGroup_cabling (g : GroupIx) (x : Option Group) : (s.setGroup g x).cabling = s.cabling := rfl
@[simp] theorem State.setGroup_ref (g : GroupIx) (x : Option Group) : (s.setGroup g x).ref = s.ref := rfl
@[simp] theorem State.setGroup_clock (g : GroupIx) (x : Option Group) : (s.setGroup g x).clock = s.clock := rfl
@[simp] theorem State.setGroup_alarms (g : GroupIx) (x : Option Group) : (s.setGroup g x).alarms = s.alarms := rfl
@[simp] theorem State.setGroup_office (g : GroupIx) (x : Option Group) : (s.setGroup g x).office = s.office := rfl
@[simp] theorem State.setGroup_links (g : GroupIx) (x : Option Group) : (s.setGroup g x).links = s.links := rfl
@[simp] theorem State.setGroup_free (g : GroupIx) (x : Option Group) : (s.setGroup g x).free = s.free := rfl
@[simp] theorem State.setGroup_fired (g : GroupIx) (x : Option Group) : (s.setGroup g x).fired = s.fired := rfl
@[simp] theorem State.setGroup_due (g : GroupIx) (x : Option Group) : (s.setGroup g x).due = s.due := rfl
@[simp] theorem State.setGroup_pending (g : GroupIx) (x : Option Group) : (s.setGroup g x).pending = s.pending := rfl

/-! ### setCand -/

@[simp] theorem State.setCand_time (c : CandIx) (x : Candidate) : (s.setCand c x).time = s.time := rfl
@[simp] theorem State.setCand_scan (c : CandIx) (x : Candidate) : (s.setCand c x).scan = s.scan := rfl
@[simp] theorem State.setCand_lines (c : CandIx) (x : Candidate) : (s.setCand c x).lines = s.lines := rfl
@[simp] theorem State.setCand_cabling (c : CandIx) (x : Candidate) : (s.setCand c x).cabling = s.cabling := rfl
@[simp] theorem State.setCand_prot (c : CandIx) (x : Candidate) : (s.setCand c x).prot = s.prot := rfl
@[simp] theorem State.setCand_clock (c : CandIx) (x : Candidate) : (s.setCand c x).clock = s.clock := rfl
@[simp] theorem State.setCand_alarms (c : CandIx) (x : Candidate) : (s.setCand c x).alarms = s.alarms := rfl
@[simp] theorem State.setCand_office (c : CandIx) (x : Candidate) : (s.setCand c x).office = s.office := rfl
@[simp] theorem State.setCand_links (c : CandIx) (x : Candidate) : (s.setCand c x).links = s.links := rfl
@[simp] theorem State.setCand_free (c : CandIx) (x : Candidate) : (s.setCand c x).free = s.free := rfl
@[simp] theorem State.setCand_fired (c : CandIx) (x : Candidate) : (s.setCand c x).fired = s.fired := rfl
@[simp] theorem State.setCand_due (c : CandIx) (x : Candidate) : (s.setCand c x).due = s.due := rfl
@[simp] theorem State.setCand_pending (c : CandIx) (x : Candidate) : (s.setCand c x).pending = s.pending := rfl

/-! ### setClock -/

@[simp] theorem State.setClock_time (k : Clock) : (s.setClock k).time = s.time := rfl
@[simp] theorem State.setClock_scan (k : Clock) : (s.setClock k).scan = s.scan := rfl
@[simp] theorem State.setClock_lines (k : Clock) : (s.setClock k).lines = s.lines := rfl
@[simp] theorem State.setClock_cabling (k : Clock) : (s.setClock k).cabling = s.cabling := rfl
@[simp] theorem State.setClock_prot (k : Clock) : (s.setClock k).prot = s.prot := rfl
@[simp] theorem State.setClock_ref (k : Clock) : (s.setClock k).ref = s.ref := rfl
@[simp] theorem State.setClock_alarms (k : Clock) : (s.setClock k).alarms = s.alarms := rfl
@[simp] theorem State.setClock_office (k : Clock) : (s.setClock k).office = s.office := rfl
@[simp] theorem State.setClock_links (k : Clock) : (s.setClock k).links = s.links := rfl
@[simp] theorem State.setClock_free (k : Clock) : (s.setClock k).free = s.free := rfl
@[simp] theorem State.setClock_fired (k : Clock) : (s.setClock k).fired = s.fired := rfl
@[simp] theorem State.setClock_due (k : Clock) : (s.setClock k).due = s.due := rfl
@[simp] theorem State.setClock_pending (k : Clock) : (s.setClock k).pending = s.pending := rfl

/-! ### setAlarms -/

@[simp] theorem State.setAlarms_time (t : AlarmTable) : (s.setAlarms t).time = s.time := rfl
@[simp] theorem State.setAlarms_scan (t : AlarmTable) : (s.setAlarms t).scan = s.scan := rfl
@[simp] theorem State.setAlarms_lines (t : AlarmTable) : (s.setAlarms t).lines = s.lines := rfl
@[simp] theorem State.setAlarms_cabling (t : AlarmTable) : (s.setAlarms t).cabling = s.cabling := rfl
@[simp] theorem State.setAlarms_prot (t : AlarmTable) : (s.setAlarms t).prot = s.prot := rfl
@[simp] theorem State.setAlarms_ref (t : AlarmTable) : (s.setAlarms t).ref = s.ref := rfl
@[simp] theorem State.setAlarms_clock (t : AlarmTable) : (s.setAlarms t).clock = s.clock := rfl
@[simp] theorem State.setAlarms_office (t : AlarmTable) : (s.setAlarms t).office = s.office := rfl
@[simp] theorem State.setAlarms_links (t : AlarmTable) : (s.setAlarms t).links = s.links := rfl
@[simp] theorem State.setAlarms_free (t : AlarmTable) : (s.setAlarms t).free = s.free := rfl
@[simp] theorem State.setAlarms_fired (t : AlarmTable) : (s.setAlarms t).fired = s.fired := rfl
@[simp] theorem State.setAlarms_due (t : AlarmTable) : (s.setAlarms t).due = s.due := rfl
@[simp] theorem State.setAlarms_pending (t : AlarmTable) : (s.setAlarms t).pending = s.pending := rfl

/-! ### setEntries -/

@[simp] theorem State.setEntries_time (es : List AlarmEntry) : (s.setEntries es).time = s.time := rfl
@[simp] theorem State.setEntries_scan (es : List AlarmEntry) : (s.setEntries es).scan = s.scan := rfl
@[simp] theorem State.setEntries_lines (es : List AlarmEntry) : (s.setEntries es).lines = s.lines := rfl
@[simp] theorem State.setEntries_cabling (es : List AlarmEntry) : (s.setEntries es).cabling = s.cabling := rfl
@[simp] theorem State.setEntries_prot (es : List AlarmEntry) : (s.setEntries es).prot = s.prot := rfl
@[simp] theorem State.setEntries_ref (es : List AlarmEntry) : (s.setEntries es).ref = s.ref := rfl
@[simp] theorem State.setEntries_clock (es : List AlarmEntry) : (s.setEntries es).clock = s.clock := rfl
@[simp] theorem State.setEntries_office (es : List AlarmEntry) : (s.setEntries es).office = s.office := rfl
@[simp] theorem State.setEntries_links (es : List AlarmEntry) : (s.setEntries es).links = s.links := rfl
@[simp] theorem State.setEntries_free (es : List AlarmEntry) : (s.setEntries es).free = s.free := rfl
@[simp] theorem State.setEntries_fired (es : List AlarmEntry) : (s.setEntries es).fired = s.fired := rfl
@[simp] theorem State.setEntries_due (es : List AlarmEntry) : (s.setEntries es).due = s.due := rfl
@[simp] theorem State.setEntries_pending (es : List AlarmEntry) : (s.setEntries es).pending = s.pending := rfl

/-! ### setFixed -/

@[simp] theorem State.setFixed_time (f : FixedEntry) : (s.setFixed f).time = s.time := rfl
@[simp] theorem State.setFixed_scan (f : FixedEntry) : (s.setFixed f).scan = s.scan := rfl
@[simp] theorem State.setFixed_lines (f : FixedEntry) : (s.setFixed f).lines = s.lines := rfl
@[simp] theorem State.setFixed_cabling (f : FixedEntry) : (s.setFixed f).cabling = s.cabling := rfl
@[simp] theorem State.setFixed_prot (f : FixedEntry) : (s.setFixed f).prot = s.prot := rfl
@[simp] theorem State.setFixed_ref (f : FixedEntry) : (s.setFixed f).ref = s.ref := rfl
@[simp] theorem State.setFixed_clock (f : FixedEntry) : (s.setFixed f).clock = s.clock := rfl
@[simp] theorem State.setFixed_office (f : FixedEntry) : (s.setFixed f).office = s.office := rfl
@[simp] theorem State.setFixed_links (f : FixedEntry) : (s.setFixed f).links = s.links := rfl
@[simp] theorem State.setFixed_free (f : FixedEntry) : (s.setFixed f).free = s.free := rfl
@[simp] theorem State.setFixed_fired (f : FixedEntry) : (s.setFixed f).fired = s.fired := rfl
@[simp] theorem State.setFixed_due (f : FixedEntry) : (s.setFixed f).due = s.due := rfl
@[simp] theorem State.setFixed_pending (f : FixedEntry) : (s.setFixed f).pending = s.pending := rfl

/-! ### setOffice -/

@[simp] theorem State.setOffice_time (o : Office) : (s.setOffice o).time = s.time := rfl
@[simp] theorem State.setOffice_scan (o : Office) : (s.setOffice o).scan = s.scan := rfl
@[simp] theorem State.setOffice_lines (o : Office) : (s.setOffice o).lines = s.lines := rfl
@[simp] theorem State.setOffice_cabling (o : Office) : (s.setOffice o).cabling = s.cabling := rfl
@[simp] theorem State.setOffice_prot (o : Office) : (s.setOffice o).prot = s.prot := rfl
@[simp] theorem State.setOffice_ref (o : Office) : (s.setOffice o).ref = s.ref := rfl
@[simp] theorem State.setOffice_clock (o : Office) : (s.setOffice o).clock = s.clock := rfl
@[simp] theorem State.setOffice_alarms (o : Office) : (s.setOffice o).alarms = s.alarms := rfl
@[simp] theorem State.setOffice_links (o : Office) : (s.setOffice o).links = s.links := rfl
@[simp] theorem State.setOffice_free (o : Office) : (s.setOffice o).free = s.free := rfl
@[simp] theorem State.setOffice_fired (o : Office) : (s.setOffice o).fired = s.fired := rfl
@[simp] theorem State.setOffice_due (o : Office) : (s.setOffice o).due = s.due := rfl
@[simp] theorem State.setOffice_pending (o : Office) : (s.setOffice o).pending = s.pending := rfl

/-! ### setReceiver -/

@[simp] theorem State.setReceiver_time (r : Receiver) : (s.setReceiver r).time = s.time := rfl
@[simp] theorem State.setReceiver_scan (r : Receiver) : (s.setReceiver r).scan = s.scan := rfl
@[simp] theorem State.setReceiver_lines (r : Receiver) : (s.setReceiver r).lines = s.lines := rfl
@[simp] theorem State.setReceiver_cabling (r : Receiver) : (s.setReceiver r).cabling = s.cabling := rfl
@[simp] theorem State.setReceiver_prot (r : Receiver) : (s.setReceiver r).prot = s.prot := rfl
@[simp] theorem State.setReceiver_ref (r : Receiver) : (s.setReceiver r).ref = s.ref := rfl
@[simp] theorem State.setReceiver_clock (r : Receiver) : (s.setReceiver r).clock = s.clock := rfl
@[simp] theorem State.setReceiver_alarms (r : Receiver) : (s.setReceiver r).alarms = s.alarms := rfl
@[simp] theorem State.setReceiver_office (r : Receiver) : (s.setReceiver r).office = s.office := rfl
@[simp] theorem State.setReceiver_free (r : Receiver) : (s.setReceiver r).free = s.free := rfl
@[simp] theorem State.setReceiver_fired (r : Receiver) : (s.setReceiver r).fired = s.fired := rfl
@[simp] theorem State.setReceiver_due (r : Receiver) : (s.setReceiver r).due = s.due := rfl
@[simp] theorem State.setReceiver_pending (r : Receiver) : (s.setReceiver r).pending = s.pending := rfl

/-! ### issue -/

@[simp] theorem State.issue_time (b : EventBody) : (s.issue b).time = s.time := rfl
@[simp] theorem State.issue_scan (b : EventBody) : (s.issue b).scan = s.scan := rfl
@[simp] theorem State.issue_lines (b : EventBody) : (s.issue b).lines = s.lines := rfl
@[simp] theorem State.issue_cabling (b : EventBody) : (s.issue b).cabling = s.cabling := rfl
@[simp] theorem State.issue_prot (b : EventBody) : (s.issue b).prot = s.prot := rfl
@[simp] theorem State.issue_ref (b : EventBody) : (s.issue b).ref = s.ref := rfl
@[simp] theorem State.issue_clock (b : EventBody) : (s.issue b).clock = s.clock := rfl
@[simp] theorem State.issue_alarms (b : EventBody) : (s.issue b).alarms = s.alarms := rfl
@[simp] theorem State.issue_office (b : EventBody) : (s.issue b).office = s.office := rfl
@[simp] theorem State.issue_free (b : EventBody) : (s.issue b).free = s.free := rfl
@[simp] theorem State.issue_fired (b : EventBody) : (s.issue b).fired = s.fired := rfl
@[simp] theorem State.issue_due (b : EventBody) : (s.issue b).due = s.due := rfl
@[simp] theorem State.issue_pending (b : EventBody) : (s.issue b).pending = s.pending := rfl

/-! ### spend -/

@[simp] theorem State.spend_time : (s.spend).time = s.time := rfl
@[simp] theorem State.spend_scan : (s.spend).scan = s.scan := rfl
@[simp] theorem State.spend_lines : (s.spend).lines = s.lines := rfl
@[simp] theorem State.spend_cabling : (s.spend).cabling = s.cabling := rfl
@[simp] theorem State.spend_prot : (s.spend).prot = s.prot := rfl
@[simp] theorem State.spend_ref : (s.spend).ref = s.ref := rfl
@[simp] theorem State.spend_clock : (s.spend).clock = s.clock := rfl
@[simp] theorem State.spend_alarms : (s.spend).alarms = s.alarms := rfl
@[simp] theorem State.spend_office : (s.spend).office = s.office := rfl
@[simp] theorem State.spend_links : (s.spend).links = s.links := rfl
@[simp] theorem State.spend_fired : (s.spend).fired = s.fired := rfl
@[simp] theorem State.spend_due : (s.spend).due = s.due := rfl
@[simp] theorem State.spend_pending : (s.spend).pending = s.pending := rfl

/-! ### countMilli -/

@[simp] theorem State.countMilli_scan : (s.countMilli).scan = s.scan := rfl
@[simp] theorem State.countMilli_lines : (s.countMilli).lines = s.lines := rfl
@[simp] theorem State.countMilli_cabling : (s.countMilli).cabling = s.cabling := rfl
@[simp] theorem State.countMilli_prot : (s.countMilli).prot = s.prot := rfl
@[simp] theorem State.countMilli_ref : (s.countMilli).ref = s.ref := rfl
@[simp] theorem State.countMilli_clock : (s.countMilli).clock = s.clock := rfl
@[simp] theorem State.countMilli_alarms : (s.countMilli).alarms = s.alarms := rfl
@[simp] theorem State.countMilli_office : (s.countMilli).office = s.office := rfl
@[simp] theorem State.countMilli_links : (s.countMilli).links = s.links := rfl
@[simp] theorem State.countMilli_free : (s.countMilli).free = s.free := rfl
@[simp] theorem State.countMilli_fired : (s.countMilli).fired = s.fired := rfl
@[simp] theorem State.countMilli_due : (s.countMilli).due = s.due := rfl
@[simp] theorem State.countMilli_pending : (s.countMilli).pending = s.pending := rfl

/-! ### countTenth -/

@[simp] theorem State.countTenth_scan : (s.countTenth).scan = s.scan := rfl
@[simp] theorem State.countTenth_lines : (s.countTenth).lines = s.lines := rfl
@[simp] theorem State.countTenth_cabling : (s.countTenth).cabling = s.cabling := rfl
@[simp] theorem State.countTenth_prot : (s.countTenth).prot = s.prot := rfl
@[simp] theorem State.countTenth_ref : (s.countTenth).ref = s.ref := rfl
@[simp] theorem State.countTenth_clock : (s.countTenth).clock = s.clock := rfl
@[simp] theorem State.countTenth_alarms : (s.countTenth).alarms = s.alarms := rfl
@[simp] theorem State.countTenth_office : (s.countTenth).office = s.office := rfl
@[simp] theorem State.countTenth_links : (s.countTenth).links = s.links := rfl
@[simp] theorem State.countTenth_free : (s.countTenth).free = s.free := rfl
@[simp] theorem State.countTenth_fired : (s.countTenth).fired = s.fired := rfl
@[simp] theorem State.countTenth_due : (s.countTenth).due = s.due := rfl
@[simp] theorem State.countTenth_pending : (s.countTenth).pending = s.pending := rfl

/-! ### countSecond -/

@[simp] theorem State.countSecond_scan : (s.countSecond).scan = s.scan := rfl
@[simp] theorem State.countSecond_lines : (s.countSecond).lines = s.lines := rfl
@[simp] theorem State.countSecond_cabling : (s.countSecond).cabling = s.cabling := rfl
@[simp] theorem State.countSecond_prot : (s.countSecond).prot = s.prot := rfl
@[simp] theorem State.countSecond_ref : (s.countSecond).ref = s.ref := rfl
@[simp] theorem State.countSecond_clock : (s.countSecond).clock = s.clock := rfl
@[simp] theorem State.countSecond_alarms : (s.countSecond).alarms = s.alarms := rfl
@[simp] theorem State.countSecond_office : (s.countSecond).office = s.office := rfl
@[simp] theorem State.countSecond_links : (s.countSecond).links = s.links := rfl
@[simp] theorem State.countSecond_free : (s.countSecond).free = s.free := rfl
@[simp] theorem State.countSecond_fired : (s.countSecond).fired = s.fired := rfl
@[simp] theorem State.countSecond_due : (s.countSecond).due = s.due := rfl
@[simp] theorem State.countSecond_pending : (s.countSecond).pending = s.pending := rfl

/-! ### newTick -/

@[simp] theorem State.newTick_time : (s.newTick).time = s.time := rfl
@[simp] theorem State.newTick_scan : (s.newTick).scan = s.scan := rfl
@[simp] theorem State.newTick_lines : (s.newTick).lines = s.lines := rfl
@[simp] theorem State.newTick_cabling : (s.newTick).cabling = s.cabling := rfl
@[simp] theorem State.newTick_prot : (s.newTick).prot = s.prot := rfl
@[simp] theorem State.newTick_ref : (s.newTick).ref = s.ref := rfl
@[simp] theorem State.newTick_clock : (s.newTick).clock = s.clock := rfl
@[simp] theorem State.newTick_alarms : (s.newTick).alarms = s.alarms := rfl
@[simp] theorem State.newTick_office : (s.newTick).office = s.office := rfl
@[simp] theorem State.newTick_links : (s.newTick).links = s.links := rfl
@[simp] theorem State.newTick_free : (s.newTick).free = s.free := rfl
@[simp] theorem State.newTick_due : (s.newTick).due = s.due := rfl
@[simp] theorem State.newTick_pending : (s.newTick).pending = s.pending := rfl

/-! ### The field an update gives -/

@[simp] theorem State.setClock_clock (k : Clock) : (s.setClock k).clock = k := rfl
@[simp] theorem State.setAlarms_alarms (t : AlarmTable) : (s.setAlarms t).alarms = t := rfl
@[simp] theorem State.setOffice_office (o : Office) : (s.setOffice o).office = o := rfl
@[simp] theorem State.setEntries_alarms (es : List AlarmEntry) : (s.setEntries es).alarms = { s.alarms with entries := es } := rfl
@[simp] theorem State.setFixed_alarms (f : FixedEntry) : (s.setFixed f).alarms = { s.alarms with fixed := f } := rfl
@[simp] theorem State.setReceiver_links (r : Receiver) : (s.setReceiver r).links = { s.links with receiver := r } := rfl
@[simp] theorem State.issue_links (b : EventBody) : (s.issue b).links = s.links.deliver ⟨s.time.seconds, b⟩ := rfl
@[simp] theorem State.spend_free : s.spend.free = s.free + 1 := rfl
@[simp] theorem State.newTick_fired : s.newTick.fired = [] := rfl

/-! ### One line, port, group or candidate after a change of one -/

theorem get_set {α : Type} {n : Nat} (v : Vector α n) (i j : Fin n) (x : α) :
    (v.set i.val x).get j = if j = i then x else v.get j := by
  show (v.set i.val x)[j.val] = if j = i then x else v[j.val]
  rw [Vector.getElem_set]
  by_cases h : j = i
  · simp [h]
  · simp [h, Fin.val_ne_of_ne (Ne.symm h)]

theorem State.line_setLine (l m : LineIx) (x : Line) : (s.setLine l x).line m = if m = l then x else s.line m :=
  get_set s.lines l m x

theorem State.port_setPort (l m : LineIx) (x : CablePort) : (s.setPort l x).port m = if m = l then x else s.port m :=
  get_set s.cabling.ports l m x

theorem State.group_setGroup (g h : GroupIx) (x : Option Group) : (s.setGroup g x).group h = if h = g then x else s.group h :=
  get_set s.prot.groups g h x

theorem State.cand_setCand (c d : CandIx) (x : Candidate) : (s.setCand c x).cand d = if d = c then x else s.cand d :=
  get_set s.ref.cands c d x

@[simp] theorem State.line_setLine_same (l : LineIx) (x : Line) : (s.setLine l x).line l = x := by simp [State.line_setLine]
@[simp] theorem State.port_setPort_same (l : LineIx) (x : CablePort) : (s.setPort l x).port l = x := by simp [State.port_setPort]
@[simp] theorem State.group_setGroup_same (g : GroupIx) (x : Option Group) : (s.setGroup g x).group g = x := by
  simp [State.group_setGroup]
@[simp] theorem State.cand_setCand_same (c : CandIx) (x : Candidate) : (s.setCand c x).cand c = x := by simp [State.cand_setCand]

end Sys2Proof.Machine
end

