-- ==== Sys2Proof/Laws/Ops.lean ====
section
/-!
SUPPORT. Laws/Ops.lean: what the shared operations of Machine/Ops.lean can do, said once: answering a command, delivering an
event, the forms of a command, a timed event, a check of the echoes, and work done for each of a list.
-/
namespace Sys2Proof.Machine

variable (s : State)

/-! ## Echoes (R17, R50) -/

/-- R50: with HOLD in both fields of the image in use, no echo is compared. -/
theorem Line.checkEcho_uncommanded (r : InRecord) (ln : Line) (h : ln.uncommanded = true) :
    ln.checkEcho r = { ln with mismatchRun := 0, selectorFault := false } := by simp [Line.checkEcho, h]

/-- R17, R50: a check of the echoes changes the mismatch run and SELECTOR_FAULT only. -/
theorem Line.checkEcho_frame (r : InRecord) (ln : Line) :
    ∃ run fault, ln.checkEcho r = { ln with mismatchRun := run, selectorFault := fault } := by
  unfold Line.checkEcho; split <;> exact ⟨_, _, rfl⟩

/-! ## Work for each of a list -/

/-- What each piece of work keeps, work for each of a list keeps. -/
theorem forEach_induct {α : Type} {P : State → Prop} (f : α → State → State) (xs : List α) (h : ∀ x ∈ xs, ∀ t, P t → P (f x t)) :
    ∀ s, P s → P (forEach xs f s) := by
  induction xs with
  | nil => intro s hs; exact hs
  | cons x xs ih =>
    intro s hs
    exact ih (fun y hy => h y (List.mem_cons_of_mem x hy)) _ (h x List.mem_cons_self s hs)

@[simp] theorem forEach_nil {α : Type} (f : α → State → State) : forEach [] f s = s := rfl
@[simp] theorem forEach_cons {α : Type} (f : α → State → State) (x : α) (xs : List α) :
    forEach (x :: xs) f s = forEach xs f (f x s) := rfl

/-! ## Answering a command (R150, R152) -/

theorem State.answer_a (r : Response) : s.answer .a r =
    { s with links := { s.links with responseA := some r, exchangeA := .answered }, free := s.free + 1 } := rfl
theorem State.answer_b (r : Response) : s.answer .b r =
    { s with links := { s.links with responseB := some r, exchangeB := .answered }, free := s.free + 1 } := rfl
theorem State.answer_c (r : Response) : s.answer .c r =
    { s with links := { s.links with responseC := some r, receiver := .answering false }, free := s.free + 1 } := rfl

@[simp] theorem State.answer_time (p : LinkPort) (r : Response) : (s.answer p r).time = s.time := by cases p <;> rfl
@[simp] theorem State.answer_scan (p : LinkPort) (r : Response) : (s.answer p r).scan = s.scan := by cases p <;> rfl
@[simp] theorem State.answer_lines (p : LinkPort) (r : Response) : (s.answer p r).lines = s.lines := by cases p <;> rfl
@[simp] theorem State.answer_cabling (p : LinkPort) (r : Response) : (s.answer p r).cabling = s.cabling := by cases p <;> rfl
@[simp] theorem State.answer_prot (p : LinkPort) (r : Response) : (s.answer p r).prot = s.prot := by cases p <;> rfl
@[simp] theorem State.answer_ref (p : LinkPort) (r : Response) : (s.answer p r).ref = s.ref := by cases p <;> rfl
@[simp] theorem State.answer_clock (p : LinkPort) (r : Response) : (s.answer p r).clock = s.clock := by cases p <;> rfl
@[simp] theorem State.answer_alarms (p : LinkPort) (r : Response) : (s.answer p r).alarms = s.alarms := by cases p <;> rfl
@[simp] theorem State.answer_office (p : LinkPort) (r : Response) : (s.answer p r).office = s.office := by cases p <;> rfl
@[simp] theorem State.answer_free (p : LinkPort) (r : Response) : (s.answer p r).free = s.free + 1 := by cases p <;> rfl
@[simp] theorem State.answer_fired (p : LinkPort) (r : Response) : (s.answer p r).fired = s.fired := by cases p <;> rfl
@[simp] theorem State.answer_due (p : LinkPort) (r : Response) : (s.answer p r).due = s.due := by cases p <;> rfl
@[simp] theorem State.answer_pending (p : LinkPort) (r : Response) : (s.answer p r).pending = s.pending := by cases p <;> rfl
@[simp] theorem State.answer_queue (p q : LinkPort) (r : Response) : (s.answer p r).links.queue q = s.links.queue q := by
  cases p <;> cases q <;> rfl

/-- The answer stands in the port's own response buffer. -/
@[simp] theorem State.response_answer (p : LinkPort) (r : Response) : (s.answer p r).response p = some r := by cases p <;> rfl

/-- An answer leaves the receiving side of every other port. -/
theorem State.linkSame_answer (p q : LinkPort) (r : Response) (h : q ≠ p) : LinkSame s (s.answer p r) q := by
  cases p <;> cases q <;> first | exact absurd rfl h | exact ⟨rfl, rfl⟩

/-! ## The forms of a command (R153 to R156) -/

@[simp] theorem refuseWith_apply (st : Status) : refuseWith st s = (s, ⟨st, []⟩) := rfl
@[simp] theorem taken_apply (c : Bool) : taken c s = (s, ⟨okStatus c, []⟩) := rfl
@[simp] theorem results_fst (fs : List Field) : (results fs s).1 = s := rfl
@[simp] theorem results_status (fs : List Field) : (results fs s).2.status = .ok := rfl
@[simp] theorem ctrlOnly_a (cmd : Command) : ctrlOnly .a cmd = cmd := rfl
@[simp] theorem ctrlOnly_b (cmd : Command) : ctrlOnly .b cmd = cmd := rfl
@[simp] theorem ctrlOnly_c (cmd : Command) : ctrlOnly .c cmd = refuseWith .notPermitted := rfl
@[simp] theorem ctrlOnly_link (c : CtrlPort) (cmd : Command) : ctrlOnly c.link cmd = cmd := by cases c <;> rfl

theorem State.takeCommand_eq (p : LinkPort) (cmd : Command) : s.takeCommand p cmd = (cmd s).1.answer p (cmd s).2 := rfl

/-- A refused command does nothing but answer. -/
@[simp] theorem State.takeCommand_refuseWith (p : LinkPort) (st : Status) :
    s.takeCommand p (refuseWith st) = s.answer p ⟨st, []⟩ := rfl

/-! ## Bytes and rows on a port (R150, R152; log entry 7) -/

/-- On a port that waits for a length byte, the row of a command takes it. -/
theorem State.sent_ready (i : Instr) (p : LinkPort) (cmd : Command) (h : s.links.ready p = true) :
    s.sent i p cmd = s.takeCommand p cmd := if_pos h

/-- On any other port, the row's frame arrives byte by byte. -/
theorem State.sent_busy (i : Instr) (p : LinkPort) (cmd : Command) (f : LinkPort × List Byte) (h : s.links.ready p = false)
    (hf : commandFrame i = some f) : s.sent i p cmd = s.linkBytes p f.2 := by simp [State.sent, h, hf]

@[simp] theorem State.linkBytes_nil (p : LinkPort) : s.linkBytes p [] = s := rfl
@[simp] theorem State.linkBytes_cons (p : LinkPort) (b : Byte) (bs : List Byte) :
    s.linkBytes p (b :: bs) = (s.linkByte p b).linkBytes p bs := rfl
@[simp] theorem State.linkByte_ctrl (q : CtrlPort) (b : Byte) : s.linkByte q.link b = s.ctrlByte q b := by cases q <;> rfl
@[simp] theorem State.linkByte_craft (b : Byte) : s.linkByte .c b = s.craftByte b := rfl
@[simp] theorem CtrlPort.ready_iff (q : CtrlPort) (k : Links) : k.ready q.link = (k.exchange q == .listening []) := by
  cases q <;> rfl

/-- R150, R151: a byte on a controller port that is released or answered is ignored. -/
theorem State.ctrlByte_ignored (q : CtrlPort) (b : Byte)
    (h : s.links.exchange q = .released ∨ s.links.exchange q = .answered) : s.ctrlByte q b = s := by
  rcases h with h | h <;> simp [State.ctrlByte, h]

/-- R150: a byte that does not complete the frame is kept, and one that does has the frame taken. -/
theorem State.ctrlByte_kept (q : CtrlPort) (bs : List Byte) (b : Byte) (h : s.links.exchange q = .listening bs)
    (hf : frameComplete (bs ++ [b]) = false) : s.ctrlByte q b = s.keepBytes q (bs ++ [b]) := by simp [State.ctrlByte, h, hf]
theorem State.ctrlByte_taken (q : CtrlPort) (bs : List Byte) (b : Byte) (h : s.links.exchange q = .listening bs)
    (hf : frameComplete (bs ++ [b]) = true) :
    s.ctrlByte q b = s.takeCommand q.link (frameCommand q.link (bs ++ [b])) := by simp [State.ctrlByte, h, hf]

/-- R152: the same of Port C. -/
theorem State.craftByte_kept (bs : List Byte) (b : Byte) (h : s.links.receiver = .receiving bs)
    (hf : frameComplete (bs ++ [b]) = false) : s.craftByte b = s.setReceiver (.receiving (bs ++ [b])) := by
  simp [State.craftByte, h, hf]
theorem State.craftByte_taken (bs : List Byte) (b : Byte) (h : s.links.receiver = .receiving bs)
    (hf : frameComplete (bs ++ [b]) = true) : s.craftByte b = s.takeCommand .c (frameCommand .c (bs ++ [b])) := by
  simp [State.craftByte, h, hf]

/-- Bytes kept change nothing but the exchange of their port. -/
@[simp] theorem State.exchange_keepBytes (q : CtrlPort) (bs : List Byte) : (s.keepBytes q bs).links.exchange q = .listening bs := by
  cases q <;> rfl
@[simp] theorem State.response_keepBytes (q : CtrlPort) (bs : List Byte) (p : LinkPort) :
    (s.keepBytes q bs).response p = s.response p := by cases q <;> cases p <;> rfl
theorem State.linkSame_keepBytes (q : CtrlPort) (bs : List Byte) (p : LinkPort) (h : p ≠ q.link) :
    LinkSame s (s.keepBytes q bs) p := by
  cases q <;> cases p <;> first | exact absurd rfl h | exact ⟨rfl, rfl⟩

/-! ## Timed events (log entry 6) -/

theorem State.timed_fired (i : Instr) (f : State → State) (h : i ∈ s.fired) :
    s.timed i f = { s with fired := s.fired.erase i } := by simp [State.timed, h]

theorem State.timed_fresh (i : Instr) (f : State → State) (h : i ∉ s.fired) : s.timed i f = f s := by simp [State.timed, h]

/-! ## Event queues (R161 to R164) -/

/-- R164: a queue whose service request has just been formed has it exact. -/
theorem EventQueue.form_srq (q : EventQueue) :
    q.form.srq = (decide (q.form.threshold ≤ q.form.events.length) || q.form.events.any (·.body.urgent)) := rfl

@[simp] theorem EventQueue.form_events (q : EventQueue) : q.form.events = q.events := rfl
@[simp] theorem EventQueue.form_overrun (q : EventQueue) : q.form.overrun = q.overrun := rfl
@[simp] theorem EventQueue.form_threshold (q : EventQueue) : q.form.threshold = q.threshold := rfl

/-- R163: an append to a queue with room, and to a full one. -/
theorem EventQueue.append_room (cap : Nat) (e : Event) (q : EventQueue) (h : q.events.length < cap) :
    q.append cap e = EventQueue.form { q with events := q.events ++ [e] } := if_pos h
theorem EventQueue.append_full (cap : Nat) (e : Event) (q : EventQueue) (h : cap ≤ q.events.length) :
    q.append cap e = { q with overrun := true } := if_neg (Nat.not_lt.mpr h)

@[simp] theorem Links.queue_setQueue_same (k : Links) (p : LinkPort) (q : EventQueue) : (k.setQueue p q).queue p = q := by
  cases p <;> rfl
theorem Links.queue_setQueue_other (k : Links) (p r : LinkPort) (q : EventQueue) (h : r ≠ p) :
    (k.setQueue p q).queue r = k.queue r := by
  cases p <;> cases r <;> first | exact absurd rfl h | rfl

theorem Links.queue_offer_same (e : Event) (p : LinkPort) (k : Links) :
    (k.offer e p).queue p = if e.body.routedTo p then (k.queue p).append (queueCap p) e else k.queue p := by
  unfold Links.offer; split <;> simp
theorem Links.queue_offer_other (e : Event) (p r : LinkPort) (k : Links) (h : r ≠ p) : (k.offer e p).queue r = k.queue r := by
  unfold Links.offer; split
  · exact Links.queue_setQueue_other k p r _ h
  · rfl

/-- R162, R163: what an event does to the queue of each port. -/
theorem Links.queue_deliver (e : Event) (p : LinkPort) (k : Links) :
    (k.deliver e).queue p = if e.body.routedTo p then (k.queue p).append (queueCap p) e else k.queue p := by
  unfold Links.deliver
  cases p
  · rw [Links.queue_offer_other _ _ _ _ (by decide), Links.queue_offer_other _ _ _ _ (by decide), Links.queue_offer_same]
  · rw [Links.queue_offer_other _ _ _ _ (by decide), Links.queue_offer_same, Links.queue_offer_other _ _ _ _ (by decide)]
  · rw [Links.queue_offer_same, Links.queue_offer_other _ _ _ _ (by decide), Links.queue_offer_other _ _ _ _ (by decide)]

/-- An event leaves the receiving side of every port. -/
theorem Links.deliver_receiving (e : Event) (k : Links) :
    (k.deliver e).responseA = k.responseA ∧ (k.deliver e).responseB = k.responseB ∧ (k.deliver e).responseC = k.responseC ∧
    (k.deliver e).exchangeA = k.exchangeA ∧ (k.deliver e).exchangeB = k.exchangeB ∧ (k.deliver e).receiver = k.receiver := by
  unfold Links.deliver Links.offer
  split <;> split <;> split <;> exact ⟨rfl, rfl, rfl, rfl, rfl, rfl⟩

theorem State.linkSame_issue (b : EventBody) (p : LinkPort) : LinkSame s (s.issue b) p := by
  obtain ⟨h1, h2, h3, h4, h5, h6⟩ := Links.deliver_receiving ⟨s.time.seconds, b⟩ s.links
  cases p
  · exact ⟨h1, h4⟩
  · exact ⟨h2, h5⟩
  · exact ⟨h3, h6⟩

/-- R163, R164: an append keeps a queue within its capacity and its service request exact. -/
theorem EventQueue.Sound.append {cap : Nat} {q : EventQueue} (e : Event) (h : q.Sound cap) : (q.append cap e).Sound cap := by
  by_cases hq : q.events.length < cap
  · rw [EventQueue.append_room cap e q hq]
    exact ⟨by simp only [EventQueue.form_events, List.length_append, List.length_singleton]; omega, EventQueue.form_srq _⟩
  · rw [EventQueue.append_full cap e q (Nat.not_lt.mp hq)]
    exact ⟨h.1, h.2⟩

/-- R163, R164: an event keeps the three queues sound. -/
theorem Links.Sound.deliver {k : Links} (e : Event) (h : k.Sound) : (k.deliver e).Sound := by
  have one (p : LinkPort) (hq : (k.queue p).Sound (queueCap p)) : ((k.deliver e).queue p).Sound (queueCap p) := by
    rw [Links.queue_deliver]; split
    · exact EventQueue.Sound.append e hq
    · exact hq
  exact ⟨one .a h.1, one .b h.2.1, one .c h.2.2⟩

end Sys2Proof.Machine
end

