-- ==== Sys2Proof/Laws/Frame.lean ====
section
/-!
SUPPORT. Laws/Frame.lean: how `Keeps` composes, and what the operations of the lower blocks leave as they are: issuing an event,
the Office Alarm Unit, and the Alarm Table. A proof about a higher block cites these and never unfolds the operation.
-/
namespace Sys2Proof.Machine

variable {s t u : State} {ps qs : List Part}

/-! ## Composing -/

theorem Part.Same.refl (x : Part) (s : State) : x.Same s s := by cases x <;> rfl

theorem Part.Same.trans {x : Part} (h : x.Same s t) (k : x.Same t u) : x.Same s u := by
  cases x <;> exact Eq.trans k h

theorem Keeps.refl (ps : List Part) (s : State) : Keeps ps s s := fun x _ => Part.Same.refl x s

theorem Keeps.trans (h : Keeps ps s t) (k : Keeps ps t u) : Keeps ps s u := fun x hx => (h x hx).trans (k x hx)

/-- Fewer parts are kept where more are. -/
theorem Keeps.mono (h : Keeps ps s t) (sub : ∀ x ∈ qs, x ∈ ps) : Keeps qs s t := fun x hx => h x (sub x hx)

theorem Keeps.ite {c : Prop} [Decidable c] (h : c → Keeps ps s t) (k : ¬ c → Keeps ps s u) : Keeps ps s (if c then t else u) := by
  split <;> rename_i hc
  · exact h hc
  · exact k hc

theorem forEach_keeps {α : Type} (f : α → State → State) (xs : List α) (h : ∀ x ∈ xs, ∀ t, Keeps ps t (f x t)) (s : State) :
    Keeps ps s (forEach xs f s) :=
  forEach_induct (P := Keeps ps s) f xs (fun x hx t ht => ht.trans (h x hx t)) s (Keeps.refl ps s)

/-! ## The parts that each layer of blocks keeps -/

/-- What an event keeps: all but the ports. -/
def belowLinks : List Part := [.time, .scan, .lines, .cabling, .prot, .ref, .clock, .alarms, .office, .due, .pending]
/-- What the Office Alarm Unit keeps. -/
def belowOffice : List Part := [.time, .scan, .lines, .cabling, .prot, .ref, .clock, .alarms, .due, .pending]
/-- What the Alarm Table keeps. -/
def belowAlarms : List Part := [.time, .scan, .lines, .cabling, .prot, .ref, .clock, .due, .pending]
/-- What the Clock Controller keeps. -/
def belowClock : List Part := [.time, .scan, .lines, .cabling, .prot, .ref, .due, .pending]

theorem office_sub_links : ∀ x ∈ belowOffice, x ∈ belowLinks := by decide
theorem alarms_sub_office : ∀ x ∈ belowAlarms, x ∈ belowOffice := by decide
theorem clock_sub_alarms : ∀ x ∈ belowClock, x ∈ belowAlarms := by decide

/-- A relation of parts is shown part by part. -/
theorem Keeps.of_all (h : ∀ x : Part, x ∈ ps → x.Same s t) : Keeps ps s t := h

theorem State.issue_keeps (b : EventBody) (s : State) : Keeps belowLinks s (s.issue b) := by
  intro x hx; cases x <;> first | rfl | exact absurd hx (by decide)

theorem State.answer_keeps (p : LinkPort) (r : Response) (s : State) : Keeps belowLinks s (s.answer p r) := by
  intro x hx; cases p <;> cases x <;> first | rfl | exact absurd hx (by decide)

theorem State.keepBytes_keeps (q : CtrlPort) (bs : List Byte) (s : State) : Keeps belowLinks s (s.keepBytes q bs) := by
  intro x hx; cases q <;> cases x <;> first | rfl | exact absurd hx (by decide)

theorem State.setReceiver_keeps (r : Receiver) (s : State) : Keeps belowLinks s (s.setReceiver r) := by
  intro x hx; cases x <;> first | rfl | exact absurd hx (by decide)

theorem State.setOffice_keeps (o : Office) (s : State) : Keeps belowOffice s (s.setOffice o) := by
  intro x hx; cases x <;> first | rfl | exact absurd hx (by decide)

theorem State.setAlarms_keeps (t : AlarmTable) (s : State) : Keeps belowAlarms s (s.setAlarms t) := by
  intro x hx; cases x <;> first | rfl | exact absurd hx (by decide)

theorem State.setClock_keeps (k : Clock) (s : State) : Keeps belowClock s (s.setClock k) := by
  intro x hx; cases x <;> first | rfl | exact absurd hx (by decide)

/-! ## The Office Alarm Unit -/

theorem State.chirp_keeps (ch : Chirp) (s : State) : Keeps belowOffice s (s.chirp ch) := State.setOffice_keeps _ s

theorem State.formRequired_keeps (s : State) : Keeps belowOffice s s.formRequired := State.setOffice_keeps _ s

theorem State.testAco_keeps (items : List OfferItem) (s : State) : Keeps belowOffice s (s.testAco items) := by
  unfold State.testAco
  split
  · exact Keeps.refl _ _
  · split
    · exact Keeps.refl _ _
    · exact (State.setOffice_keeps _ s).trans ((State.issue_keeps _ _).mono office_sub_links)

/-- R136, R139 to R142: an offer to the Office Alarm Unit changes nothing but that unit and the ports. -/
theorem State.officeOffer_keeps (items : List OfferItem) (s : State) : Keeps belowOffice s (s.officeOffer items) :=
  ((State.setOffice_keeps _ s).trans (State.testAco_keeps _ _)).trans (State.formRequired_keeps _)

/-- R141: a cutoff changes nothing but the Office Alarm Unit and the ports. -/
theorem State.cutoff_keeps (cause : AcoCause) (s : State) : Keeps belowOffice s (s.cutoff cause) :=
  (((State.setOffice_keeps _ s).trans (State.formRequired_keeps _)).trans
    ((State.issue_keeps _ _).mono office_sub_links)).trans (State.chirp_keeps _ _)

/-! ## The Alarm Table -/

theorem State.offer_keepsAlarms (items : List OfferItem) (s : State) : Keeps belowAlarms s (s.officeOffer items) :=
  (State.officeOffer_keeps items s).mono alarms_sub_office

theorem State.issue_keepsAlarms (b : EventBody) (s : State) : Keeps belowAlarms s (s.issue b) :=
  ((State.issue_keeps b s).mono office_sub_links).mono alarms_sub_office

theorem State.offerItems_keeps (items : List OfferItem) (s : State) : Keeps belowAlarms s (s.offerItems items) :=
  Keeps.ite (fun _ => Keeps.refl _ _) fun _ => State.offer_keepsAlarms items s

theorem State.setEntries_keeps (es : List AlarmEntry) (s : State) : Keeps belowAlarms s (s.setEntries es) := State.setAlarms_keeps _ s

theorem State.setFixed_keeps (f : FixedEntry) (s : State) : Keeps belowAlarms s (s.setFixed f) := State.setAlarms_keeps _ s

theorem State.addEntry_keeps (events : Bool) (a : Alarm) (s : State) : Keeps belowAlarms s (s.addEntry events a) := by
  unfold State.addEntry
  exact Keeps.ite (fun _ => (State.setEntries_keeps _ s).trans (State.issue_keepsAlarms _ _)) fun _ => State.setEntries_keeps _ s

theorem State.reraise_keeps (e : AlarmEntry) (s : State) : Keeps belowAlarms s (s.reraise e) :=
  ((State.setEntries_keeps _ s).trans (State.issue_keepsAlarms _ _)).trans (State.offer_keepsAlarms _ _)

theorem State.removeEntry_keeps (a : Alarm) (s : State) : Keeps belowAlarms s (s.removeEntry a) :=
  (State.setEntries_keeps _ s).trans (State.offer_keepsAlarms _ _)

theorem State.raiseFixed_keeps (s : State) : Keeps belowAlarms s s.raiseFixed := by
  unfold State.raiseFixed
  split
  · exact Keeps.refl _ _
  · exact ((State.setFixed_keeps _ s).trans (State.issue_keepsAlarms _ _)).trans (State.offer_keepsAlarms _ _)
  · exact ((State.setFixed_keeps _ s).trans (State.issue_keepsAlarms _ _)).trans (State.offer_keepsAlarms _ _)

/-- R125 to R128, R133, R134: a raise changes nothing but the Alarm Table, the Office Alarm Unit and the ports. -/
theorem State.raiseAlarm_keeps (a : Alarm) (s : State) : Keeps belowAlarms s (s.raiseAlarm a) := by
  unfold State.raiseAlarm
  split
  · exact Keeps.ite (fun _ => Keeps.refl _ _) fun _ => State.reraise_keeps _ s
  · refine Keeps.ite (fun _ => (State.addEntry_keeps _ _ s).trans (State.offer_keepsAlarms _ _)) fun _ => ?_
    split
    · exact ((State.removeEntry_keeps _ s).trans (State.addEntry_keeps _ _ _)).trans (State.offer_keepsAlarms _ _)
    · exact (State.issue_keepsAlarms _ s).trans (State.raiseFixed_keeps _)

theorem State.clearFixed_keeps (s : State) : Keeps belowAlarms s s.clearFixed := by
  unfold State.clearFixed
  refine Keeps.ite (fun _ => ?_) fun _ => Keeps.refl _ _
  have h := ((State.setFixed_keeps { s.alarms.fixed with state := .cleared, clearedAt := some s.time.seconds } s).trans
    (State.issue_keepsAlarms (.alarmCleared none s.alarms.fixed.severity none) _)).trans (State.offer_keepsAlarms [⟨.clear, none⟩] _)
  exact Keeps.ite (fun _ => (h.trans (State.setFixed_keeps _ _)).trans (State.offer_keepsAlarms _ _)) fun _ => h

theorem refillOne_keeps (events : Bool) (as : List Alarm) : ∀ acc : State × List OfferItem × Bool,
    Keeps belowAlarms acc.1 (as.foldl (refillOne events) acc).1 := by
  induction as with
  | nil => intro acc; exact Keeps.refl _ _
  | cons a as ih =>
    intro acc
    refine Keeps.trans ?_ (ih (refillOne events acc a))
    unfold refillOne
    split
    · exact Keeps.refl _ _
    · split
      · exact State.addEntry_keeps _ _ _
      · exact Keeps.refl _ _

/-- R135: the refill pass changes nothing but the Alarm Table, the Office Alarm Unit and the ports. -/
theorem State.refill_keeps (events : Bool) (s : State) : Keeps belowAlarms s (s.refill events) := by
  unfold State.refill
  have h := (refillOne_keeps events refillWalk (s, [], false)).trans
    (State.offerItems_keeps (refillWalk.foldl (refillOne events) (s, [], false)).2.1 _)
  exact Keeps.ite (fun _ => h.trans (State.raiseFixed_keeps _)) fun _ => h.trans (State.clearFixed_keeps _)

theorem State.refillIfFull_keeps (s : State) : Keeps belowAlarms s s.refillIfFull :=
  Keeps.ite (fun _ => State.refill_keeps _ s) fun _ => Keeps.refl _ _

/-- R127: a clear changes nothing but the Alarm Table, the Office Alarm Unit and the ports. -/
theorem State.clearAlarm_keeps (a : Alarm) (s : State) : Keeps belowAlarms s (s.clearAlarm a) := by
  unfold State.clearAlarm
  split
  · rename_i e _
    refine Keeps.ite (fun _ => ?_) fun _ => Keeps.refl _ _
    have h : Keeps belowAlarms s (s.markCleared e) :=
      ((State.setEntries_keeps _ s).trans (State.issue_keepsAlarms _ _)).trans (State.offer_keepsAlarms _ _)
    exact Keeps.ite (fun _ => (h.trans (State.removeEntry_keeps _ _)).trans (State.refillIfFull_keeps _)) fun _ => h
  · exact Keeps.refl _ _

theorem State.handAlarm_keeps (a : Alarm) (active : Bool) (s : State) : Keeps belowAlarms s (s.handAlarm a active) :=
  Keeps.ite (fun _ => State.raiseAlarm_keeps a s) fun _ => State.clearAlarm_keeps a s

/-- R129: an acknowledgement changes nothing but the Alarm Table, the Office Alarm Unit and the ports. -/
theorem State.acknowledge_keeps (named : Nat → AlarmEntry → Bool) (fixedNamed : Bool) (s : State) :
    Keeps belowAlarms s (s.acknowledge named fixedNamed) := by
  unfold State.acknowledge
  have h (es : List AlarmEntry) (f : FixedEntry) (items : List OfferItem) :
      Keeps belowAlarms s (((s.setEntries es).setFixed f).offerItems items) :=
    ((State.setEntries_keeps es s).trans (State.setFixed_keeps f _)).trans (State.offerItems_keeps items _)
  exact Keeps.ite (fun _ => (h _ _ _).trans (State.refillIfFull_keeps _)) fun _ => h _ _ _

theorem State.issueSeverity_keeps (a : Option Alarm) (old new : Severity) (sa : Option Bool) (s : State) :
    Keeps belowAlarms s (s.issueSeverity a old new sa) :=
  Keeps.ite (fun _ => Keeps.refl _ _) fun _ => State.issue_keepsAlarms _ s

/-- R132: a re-grade changes nothing but the Alarm Table, the Office Alarm Unit and the ports. -/
theorem State.regrade_keeps (sel : AlarmEntry → Bool) (s : State) : Keeps belowAlarms s (s.regrade sel) :=
  ((State.setEntries_keeps _ s).trans (forEach_keeps _ _ (fun _ _ t => State.issueSeverity_keeps _ _ _ _ t) _)).trans
    (State.offerItems_keeps _ _)

theorem State.coverageChange_keeps (l : LineIx) (covered : Bool) (s : State) : Keeps belowAlarms s (s.coverageChange l covered) :=
  (State.setAlarms_keeps _ s).trans (State.regrade_keeps _ _)

end Sys2Proof.Machine
end

