-- ==== Sys2Proof/Laws/Timing.lean ====
section
/-!
SUPPORT. Laws/Timing.lean: what the Clock Controller and the Reference Monitor leave as they are, and what the Clock Controller does
to its own record.
-/
namespace Sys2Proof.Machine

variable (s : State)

/-- What the Reference Monitor keeps. -/
def belowRef : List Part := [.time, .scan, .lines, .cabling, .prot, .due, .pending]

theorem ref_sub_clock : ∀ x ∈ belowRef, x ∈ belowClock := by decide

/-! ## The Clock Controller -/

theorem State.hand_keepsClock (a : Alarm) (active : Bool) : Keeps belowClock s (s.handAlarm a active) :=
  (State.handAlarm_keeps a active s).mono clock_sub_alarms

theorem State.issue_keepsClock (b : EventBody) : Keeps belowClock s (s.issue b) :=
  (State.issue_keepsAlarms b s).mono clock_sub_alarms

theorem State.handClockConds_keeps : Keeps belowClock s s.handClockConds := by
  have one (t : ShelfAlarm) (a b : Bool) (u : State) : Keeps belowClock u (if a = b then u else u.handAlarm (.shelf t) b) :=
    Keeps.ite (fun _ => Keeps.refl _ _) fun _ => State.hand_keepsClock u _ _
  exact ((((State.setClock_keeps _ s).trans (one _ _ _ _)).trans (one _ _ _ _)).trans (one _ _ _ _)).trans (one _ _ _ _)

/-- R119: a report changes nothing but the Clock Controller, the Alarm Table, the Office Alarm Unit and the ports. -/
theorem State.reportClock_keeps (k : Clock) : Keeps belowClock s (s.reportClock k) := by
  unfold State.reportClock
  refine Keeps.trans ?_ (State.handClockConds_keeps _)
  exact Keeps.ite (fun _ => (State.setClock_keeps _ s).trans (State.issue_keepsClock _ _)) fun _ => State.setClock_keeps _ s

theorem State.reselect_keeps : Keeps belowClock s s.reselect := State.reportClock_keeps s _

theorem State.formFeeding_keeps : Keeps belowClock s s.formFeeding := State.setClock_keeps _ s

theorem State.offerQ_keeps (c : CandIx) (q : Int) : Keeps belowClock s (s.offerQ c q) :=
  Keeps.ite (fun _ => State.reportClock_keeps s _) fun _ => Keeps.refl _ _

theorem State.ageLimit_keeps : Keeps belowClock s s.ageLimit :=
  Keeps.ite (fun _ => State.reportClock_keeps s _) fun _ => Keeps.refl _ _

theorem State.tickAge_keeps : Keeps belowClock s s.tickAge := by
  unfold State.tickAge
  refine Keeps.ite (fun _ => ?_) fun _ => Keeps.refl _ _
  exact Keeps.ite (fun _ => (State.setClock_keeps _ s).trans (State.ageLimit_keeps _)) fun _ => State.setClock_keeps _ s

theorem State.notifyClock_keeps (p : LinkPort) (new : ClockReq) : Keeps belowClock s (s.notifyClock p new) := by
  unfold State.notifyClock
  split
  · exact Keeps.refl _ _
  · exact Keeps.refl _ _
  · exact Keeps.ite (fun _ => Keeps.refl _ _) fun _ => State.issue_keepsClock s _

theorem State.placeClockReq_keeps (p : LinkPort) (r : ClockReq) : Keeps belowClock s (s.placeClockReq p r) :=
  ((State.notifyClock_keeps s p r).trans (State.setClock_keeps _ _)).trans (State.reselect_keeps _)

/-! ## The Clock Controller's own record: what hand-overs leave of it -/

/-- The lower blocks never touch the Clock Controller's record. -/
theorem State.handAlarm_clock (a : Alarm) (active : Bool) : (s.handAlarm a active).clock = s.clock :=
  State.handAlarm_keeps a active s .clock (by decide)

/-- R119: after the hand-overs the record is as it was, but for the conditions noted as handed. -/
theorem State.handClockConds_clock : s.handClockConds.clock = { s.clock with handed := clockConds s.ref s.clock } := by
  have one (t : ShelfAlarm) (a b : Bool) (u : State) : (if a = b then u else u.handAlarm (.shelf t) b).clock = u.clock := by
    split
    · rfl
    · exact State.handAlarm_clock u _ _
  exact (one _ _ _ _).trans ((one _ _ _ _).trans ((one _ _ _ _).trans (one _ _ _ _)))

/-- R119: the record after a report. -/
theorem State.reportClock_clock (k : Clock) :
    (s.reportClock k).clock = { k.formed s.ref with handed := clockConds s.ref (k.formed s.ref) } := by
  unfold State.reportClock
  rw [State.handClockConds_clock]
  split <;> rfl

/-- R106: the record after the selection is made again. -/
theorem State.reselect_clock : s.reselect.clock =
    let k := (s.clock.select s.ref (selection s.ref s.clock)).formed s.ref
    { k with handed := clockConds s.ref k } := State.reportClock_clock s _

/-! ## The Reference Monitor -/

theorem State.setCand_keeps (c : CandIx) (x : Candidate) : Keeps belowRef s (s.setCand c x) := by
  intro p hp; cases p <;> first | rfl | exact absurd hp (by decide)

theorem State.modCand_keeps (c : CandIx) (f : Candidate → Candidate) : Keeps belowRef s (s.modCand c f) := State.setCand_keeps s c _

theorem State.formElig_keeps (c : CandIx) : Keeps belowRef s (s.formElig c) := State.modCand_keeps s c _

theorem State.reselect_keepsRef : Keeps belowRef s s.reselect := (State.reselect_keeps s).mono ref_sub_clock

/-- R99: a change handed on changes nothing of the lines, the cabling and the groups. -/
theorem State.handOn_keeps (c : CandIx) (old : Candidate) : Keeps belowRef s (s.handOn c old) := by
  unfold State.handOn
  refine Keeps.ite (fun _ => Keeps.refl _ _) fun _ => ?_
  refine Keeps.trans ?_ (State.reselect_keepsRef _)
  refine Keeps.trans ?_ (State.formElig_keeps _ c)
  have h := (State.issue_keepsClock s (.refState c (s.cand c).state (s.cand c).reasons (s.cand c).resolved (s.cand c).lastQ)).mono
    ref_sub_clock
  exact Keeps.ite (fun _ => h) fun _ => h.trans ((State.hand_keepsClock _ _ _).mono ref_sub_clock)

theorem State.changeCand_keeps (c : CandIx) (f : Candidate → Candidate) : Keeps belowRef s (s.changeCand c f) :=
  (State.modCand_keeps s c f).trans (State.handOn_keeps _ c _)

theorem State.resolveCand_keeps (c : CandIx) : Keeps belowRef s (s.resolveCand c) :=
  Keeps.ite (fun _ => Keeps.refl _ _) fun _ => State.changeCand_keeps s c _

theorem State.offerGroup_keeps (g : GroupIx) : Keeps belowRef s (s.offerGroup g) :=
  forEach_keeps _ _ (fun c _ t => Keeps.ite (fun _ => State.resolveCand_keeps t c) fun _ => Keeps.refl _ _) s

theorem State.offerDefect_keeps (l : LineIx) : Keeps belowRef s (s.offerDefect l) :=
  forEach_keeps _ _ (fun c _ t => Keeps.ite (fun _ => State.changeCand_keeps t c _) fun _ => Keeps.refl _ _) s

theorem State.offerCabling_keeps (l : LineIx) : Keeps belowRef s (s.offerCabling l) :=
  forEach_keeps _ _ (fun c _ t => Keeps.ite (fun _ => State.changeCand_keeps t c _) fun _ => Keeps.refl _ _) s

theorem State.offerQuality_keeps (l : LineIx) : Keeps belowRef s (s.offerQuality l) := by
  unfold State.offerQuality
  refine Keeps.ite (fun _ => ?_) fun _ => Keeps.refl _ _
  exact (forEach_keeps _ _ (fun c _ t => Keeps.ite (fun _ => State.formElig_keeps t c) fun _ => Keeps.refl _ _) s).trans
    (State.reselect_keepsRef _)

theorem State.activityExpiry_keeps (c : CandIx) : Keeps belowRef s (s.activityExpiry c) :=
  Keeps.ite (fun _ => State.changeCand_keeps s c _) fun _ => Keeps.refl _ _

theorem State.startEdge_keeps (c : CandIx) : Keeps belowRef s (s.startEdge c) :=
  Keeps.ite (fun _ => State.changeCand_keeps s c _) fun _ => Keeps.refl _ _

theorem State.judgeGate_keeps (c : CandIx) (q : Int) : Keeps belowRef s (s.judgeGate c q) := by
  unfold State.judgeGate
  refine Keeps.ite (fun _ => State.changeCand_keeps s c _) fun _ => ?_
  exact Keeps.ite (fun _ => (State.changeCand_keeps s c _).trans (State.changeCand_keeps _ c _)) fun _ => State.modCand_keeps s c _

theorem State.completeGate_keeps (c : CandIx) (count : Nat) : Keeps belowRef s (s.completeGate c count) :=
  ((State.modCand_keeps s c _).trans (State.judgeGate_keeps _ c _)).trans ((State.offerQ_keeps _ c _).mono ref_sub_clock)

theorem State.setupCand_keeps (c : CandIx) (enabled : Bool) (source : CandSource) (priority quality : Nat) :
    Keeps belowRef s (s.setupCand c enabled source priority quality) := by
  unfold State.setupCand
  refine Keeps.trans ?_ (State.reselect_keepsRef _)
  refine Keeps.trans ?_ (State.formElig_keeps _ c)
  exact Keeps.ite (fun _ => State.modCand_keeps s c _) fun _ => (State.modCand_keeps s c _).trans (State.changeCand_keeps _ c _)

theorem State.setLockout_keeps (c : CandIx) (on : Bool) : Keeps belowRef s (s.setLockout c on) :=
  Keeps.ite (fun _ => Keeps.refl _ _) fun _ =>
    ((State.modCand_keeps s c _).trans (State.formElig_keeps _ c)).trans (State.reselect_keepsRef _)

end Sys2Proof.Machine
end

