-- ==== Sys2Proof/Laws/Protection.lean ====
section
/-!
SUPPORT. Laws/Protection.lean: what the Protection Controller leaves as it is, and what a change of a request list does to the
group's record.
-/
namespace Sys2Proof.Machine

variable (s : State)

/-- What the Protection Controller keeps. -/
def belowProt : List Part := [.time, .scan, .lines, .cabling, .due, .pending]

theorem prot_sub_ref : ∀ x ∈ belowProt, x ∈ belowRef := by decide
theorem prot_sub_clock : ∀ x ∈ belowProt, x ∈ belowClock := by decide
theorem prot_sub_alarms : ∀ x ∈ belowProt, x ∈ belowAlarms := by decide

theorem State.setProt_keeps (p : Protection) : Keeps belowProt s { s with prot := p } := by
  intro x hx; cases x <;> first | rfl | exact absurd hx (by decide)

theorem State.setGroup_keeps (g : GroupIx) (x : Option Group) : Keeps belowProt s (s.setGroup g x) := State.setProt_keeps s _

theorem State.modGroup_keeps (g : GroupIx) (f : Group → Group) : Keeps belowProt s (s.modGroup g f) := by
  unfold State.modGroup; split
  · exact State.setGroup_keeps s g _
  · exact Keeps.refl _ _

theorem State.issue_keepsProt (b : EventBody) : Keeps belowProt s (s.issue b) := (State.issue_keepsAlarms b s).mono prot_sub_alarms

theorem State.hand_keepsProt (a : Alarm) (active : Bool) : Keeps belowProt s (s.handAlarm a active) :=
  (State.handAlarm_keeps a active s).mono prot_sub_alarms

theorem State.formLineCoverage_keeps (l : LineIx) : Keeps belowProt s (s.formLineCoverage l) :=
  Keeps.ite (fun _ => Keeps.refl _ _) fun _ =>
    (State.setProt_keeps s _).trans ((State.coverageChange_keeps _ _ _).mono prot_sub_alarms)

theorem State.formCoverage_keeps : Keeps belowProt s s.formCoverage :=
  forEach_keeps _ _ (fun l _ t => State.formLineCoverage_keeps t l) s

theorem State.issueSwitched_keeps (g : GroupIx) (old new : Group) : Keeps belowProt s (s.issueSwitched g old new) :=
  Keeps.ite (fun _ => Keeps.refl _ _) fun _ => State.issue_keepsProt s _

theorem State.handFault_keeps (g : GroupIx) (old new : Group) : Keeps belowProt s (s.handFault g old new) :=
  Keeps.ite (fun _ => Keeps.refl _ _) fun _ => State.hand_keepsProt s _ _

/-- R76: the forming of an effective request changes nothing of the lines and the cabling. -/
theorem State.applyForming_keeps (g : GroupIx) (x : Group) (w : Winner) : Keeps belowProt s (s.applyForming g x w) := by
  unfold State.applyForming
  have h (y z : Group) (c : LineIx → LineCmd) : Keeps belowProt s
      ((State.handFault g y z (State.setGroup (State.issueSwitched g x y (s.setGroup g (some y))) g (some z))).commandMembers z
        c).formCoverage :=
    (((((State.setGroup_keeps s g _).trans (State.issueSwitched_keeps _ g x y)).trans (State.setGroup_keeps _ g _)).trans
      (State.handFault_keeps _ g y z)).trans (State.setProt_keeps _ _)).trans (State.formCoverage_keeps _)
  exact Keeps.ite (fun _ => h _ _ _) fun _ => (h _ _ _).trans ((State.offerGroup_keeps _ g).mono prot_sub_ref)

theorem State.formEffective_keeps (g : GroupIx) : Keeps belowProt s (s.formEffective g) := by
  unfold State.formEffective; split
  · exact Keeps.ite (fun _ => State.applyForming_keeps s g _ _) fun _ => Keeps.refl _ _
  · exact Keeps.refl _ _

theorem State.notifyPreempted_keeps (g : GroupIx) (e : ReqEntry) (c : ReqClass) (src : Option ReqSource) :
    Keeps belowProt s (s.notifyPreempted g e c src) := by
  unfold State.notifyPreempted; split
  · exact State.issue_keepsProt s _
  · exact Keeps.refl _ _

theorem State.notifyYield_keeps (g : GroupIx) (x : Group) (w : Winner) : Keeps belowProt s (s.notifyYield g x w) := by
  unfold State.notifyYield; split
  · exact State.notifyPreempted_keeps s g _ _ _
  · exact Keeps.refl _ _

theorem State.issueWinner_keeps (g : GroupIx) (x : Group) (w : Winner) : Keeps belowProt s (s.issueWinner g x w) :=
  Keeps.ite (fun _ => Keeps.refl _ _) fun _ => State.issue_keepsProt s _

/-- R53: a resolution changes nothing of the lines and the cabling. -/
theorem State.resolve_keeps (g : GroupIx) : Keeps belowProt s (s.resolve g) := by
  unfold State.resolve; split
  · exact Keeps.ite (fun _ => (((State.setGroup_keeps s g _).trans (State.notifyYield_keeps _ g _ _)).trans
      (State.issueWinner_keeps _ g _ _)).trans (State.applyForming_keeps _ g _ _)) fun _ => Keeps.refl _ _
  · exact Keeps.refl _ _

theorem State.changeList_keeps (g : GroupIx) (f : Group → Group) : Keeps belowProt s (s.changeList g f) :=
  (State.modGroup_keeps s g f).trans (State.resolve_keeps _ g)

theorem State.endTrial_keeps (g : GroupIx) (e : ReqEntry) (o : TrialDetail) : Keeps belowProt s (s.endTrial g e o) :=
  ((State.modGroup_keeps s g _).trans (State.issue_keepsProt _ _)).trans (State.changeList_keeps _ g _)

theorem State.testTrial_keeps (g : GroupIx) : Keeps belowProt s (s.testTrial g) := by
  unfold State.testTrial; split
  · split
    · exact Keeps.ite (fun _ => State.endTrial_keeps s g _ _) fun _ => Keeps.refl _ _
    · exact Keeps.refl _ _
  · exact Keeps.refl _ _

theorem State.trialExpiry_keeps (g : GroupIx) : Keeps belowProt s (s.trialExpiry g) := by
  unfold State.trialExpiry; split
  · split
    · exact Keeps.ite (fun _ => State.endTrial_keeps s g _ _) fun _ => Keeps.refl _ _
    · exact Keeps.refl _ _
  · exact Keeps.refl _ _

theorem State.agreementExpiry_keeps (g : GroupIx) : Keeps belowProt s (s.agreementExpiry g) := by
  unfold State.agreementExpiry; split
  · refine Keeps.ite (fun _ => ?_) fun _ => Keeps.refl _ _
    exact Keeps.ite (fun _ => (State.setGroup_keeps s g _).trans (State.formEffective_keeps _ g)) fun _ =>
      (State.setGroup_keeps s g _).trans (State.hand_keepsProt _ _ _)
  · exact Keeps.refl _ _

theorem State.setCondition_keeps (g : GroupIx) (k : ChanIx) (c : ChanCond) (x : Group) :
    Keeps belowProt s (s.setCondition g k c x) := by
  unfold State.setCondition
  have put (h : Option Nat) : Keeps belowProt s (s.setGroup g (some { x with chans := x.chans.set k.val ⟨c, h⟩ })) :=
    State.setGroup_keeps s g _
  refine Keeps.ite (fun _ => Keeps.refl _ _) fun _ => Keeps.ite (fun _ => ?_) fun _ => Keeps.ite (fun _ => put _) fun _ => ?_
  · exact Keeps.ite (fun _ => (put _).trans (State.changeList_keeps _ g _)) fun _ => put _
  · exact Keeps.ite (fun _ => (put _).trans (State.changeList_keeps _ g _)) fun _ => put _

theorem State.holdOffEnd_keeps (g : GroupIx) (k : ChanIx) : Keeps belowProt s (s.holdOffEnd g k) := by
  unfold State.holdOffEnd; split
  · refine Keeps.ite (fun _ => ?_) fun _ => Keeps.refl _ _
    exact Keeps.ite (fun _ => State.setGroup_keeps s g _) fun _ => (State.setGroup_keeps s g _).trans (State.changeList_keeps _ g _)
  · exact Keeps.refl _ _

theorem State.lineSummary_keeps (l : LineIx) : Keeps belowProt s (s.lineSummary l) := by
  unfold State.lineSummary; split
  · exact Keeps.refl _ _
  · split
    · exact Keeps.ite (fun _ => State.setCondition_keeps s _ _ _ _) fun _ => Keeps.refl _ _
    · exact Keeps.refl _ _
  · split
    · exact Keeps.ite (fun _ => State.changeList_keeps s _ _) fun _ => Keeps.refl _ _
    · exact Keeps.refl _ _

theorem State.restoreExpiry_keeps (g : GroupIx) : Keeps belowProt s (s.restoreExpiry g) := by
  unfold State.restoreExpiry; split
  · exact Keeps.ite (fun _ => State.changeList_keeps s g _) fun _ => Keeps.refl _ _
  · exact Keeps.refl _ _

theorem State.crossedChange_keeps (g : GroupIx) : Keeps belowProt s (s.crossedChange g) := by
  unfold State.crossedChange; split
  · refine Keeps.ite (fun _ => Keeps.refl _ _) fun _ => Keeps.trans ?_ (State.formCoverage_keeps _)
    have h (x : Option Group) (c : Bool) : Keeps belowProt s (State.handAlarm (.group .groupCrossed g) c (s.setGroup g x)) :=
      (State.setGroup_keeps s g x).trans (State.hand_keepsProt _ _ _)
    exact Keeps.ite (fun _ => (h _ _).trans (State.changeList_keeps _ g _)) fun _ => h _ _
  · exact Keeps.refl _ _

theorem State.moveOpened_keeps (l : LineIx) : Keeps belowProt s (s.moveOpened l) := by
  unfold State.moveOpened; split
  · split
    · exact Keeps.ite (fun _ => State.changeList_keeps s _ _) fun _ => Keeps.refl _ _
    · exact Keeps.refl _ _
  · exact Keeps.refl _ _

theorem State.moveClosed_keeps (l : LineIx) : Keeps belowProt s (s.moveClosed l) := by
  unfold State.moveClosed; split
  · split
    · exact Keeps.ite (fun _ => State.changeList_keeps s _ _) fun _ => Keeps.refl _ _
    · exact Keeps.refl _ _
  · exact Keeps.refl _ _

/-! ## A group's record -/

@[simp] theorem Group.withList_list (es : List ReqEntry) (x : Group) : (x.withList es).list = es := rfl
@[simp] theorem Group.drop_list (p : ReqEntry → Bool) (x : Group) : (x.drop p).list = x.list.filter fun e => !p e := rfl
@[simp] theorem Group.enter_list (e : ReqEntry) (x : Group) : (x.enter e).list = x.list ++ [e] := rfl
@[simp] theorem Group.formed_list (w : Winner) (x : Group) : (x.formed w).list = x.list := rfl
@[simp] theorem Group.formed_tracker (w : Winner) (x : Group) : (x.formed w).tracker = x.tracker := rfl
@[simp] theorem Group.formed_inService (w : Winner) (x : Group) : (x.formed w).inService = x.inService := rfl
theorem Group.waitFormed_list (old : EffRequest) (x : Group) : (x.waitFormed old).list = x.list := by
  unfold Group.waitFormed; split
  · split <;> rfl
  · rfl
theorem Group.waitFormed_selected (old : EffRequest) (x : Group) : (x.waitFormed old).selected = x.selected := by
  unfold Group.waitFormed; split
  · split <;> rfl
  · rfl

/-- R80, R81: a running agreement wait at a forming while its condition holds: it goes on or begins again. -/
theorem Group.waitFormed_running (old : EffRequest) (x : Group) (n : Nat) (hc : x.agreementCond = true)
    (hf : x.protoFault = false) (hw : x.agreeWait = some n) :
    (x.waitFormed old).agreeWait = if old.keepsWait x.eff then some n else some 0 := by
  simp [Group.waitFormed, hc, hf, hw]

/-- R81: the agreement wait stops, and PROTOCOL_FAULT ends, with the agreement condition. -/
theorem Group.waitFormed_stopped (old : EffRequest) (x : Group) (hc : x.agreementCond = false) :
    x.waitFormed old = { x with agreeWait := none, protoFault := false } := by simp [Group.waitFormed, hc]

/-- R51, R64: the restore wait runs on only while RESTORE_WAIT stands in the list. -/
theorem Group.withList_restoreWait (es : List ReqEntry) (x : Group) (h : es.any (·.cls == .restoreWait) = false) :
    (x.withList es).restoreWait = none := by simp [Group.withList, h]

/-- R53: what a resolution's winner leaves of the list. -/
theorem Group.yield_list_sub (w : Winner) (x : Group) : ∀ e ∈ (x.yield w).list, e ∈ x.list := by
  intro e he
  unfold Group.yield at he
  by_cases h1 : w.cls.preempts = true <;> by_cases h2 : w.cls = .restoreWait ∨ w.cls = .holdSwitched <;>
    simp [h1, h2, Group.drop_list, List.mem_filter] at he <;> simp [he]

end Sys2Proof.Machine
end

