-- ==== Sys2Proof/Laws/PerInstr.lean ====
section
/-!
SUPPORT. Laws/PerInstr.lean: the family SentAsFrame, one lemma for each command and event: what is sent for it, if anything is, is
a frame of 11.5, on a port that its row concerns.
-/
namespace Sys2Proof.Laws.SentAsFrame

open Sys2Proof Sys2Proof.Machine

/-- What is sent for the command is a frame with its length byte, code, parameters and check byte, on the port of its row. -/
def Statement (i : Instr) : Prop :=
  ∀ (q : LinkPort) (f : List Byte), commandFrame i = some (q, f) → q ∈ linkPorts i ∧ ∃ code params, f = frameOf code params

/-- A command sent as a frame on a port of its row. -/
theorem of_frame {i : Instr} {p : LinkPort} {code : Byte} {params : List Byte}
    (h : commandFrame i = some (p, frameOf code params)) (hp : p ∈ linkPorts i) : Statement i := by
  intro q f hf
  obtain ⟨rfl, rfl⟩ := Prod.mk.inj (Option.some.inj (h.symm.trans hf))
  exact ⟨hp, code, params, rfl⟩

/-- An event is not sent. -/
theorem of_event {i : Instr} (h : commandFrame i = none) : Statement i := by
  intro q f hf
  exact absurd (h.symm.trans hf) (by simp)

theorem powerOnReset : Statement (.powerOnReset) := of_event rfl
theorem shelfRestart (p : LinkPort) : Statement (.shelfRestart p) := of_frame rfl List.mem_cons_self
theorem lineSetupShelfForm (p : LinkPort) (interval : Byte) : Statement (.lineSetupShelfForm p interval) := of_frame rfl List.mem_cons_self
theorem lineSetupLineForm (p : LinkPort) (x : LineSetupParams) : Statement (.lineSetupLineForm p x) := of_frame rfl List.mem_cons_self
theorem cableExpectShelfForm (p : LinkPort) (slot : Word16) : Statement (.cableExpectShelfForm p slot) := of_frame rfl List.mem_cons_self
theorem cableExpectPortForm (p : LinkPort) (port : Byte) (kind : Byte) (cord : Word32) (end_ : Byte) (cls : Byte) : Statement (.cableExpectPortForm p port kind cord end_ cls) := of_frame rfl List.mem_cons_self
theorem groupSetupConfigureForm (p : LinkPort) (x : GroupSetupParams) : Statement (.groupSetupConfigureForm p x) := of_frame rfl List.mem_cons_self
theorem groupSetupRemoveForm (p : LinkPort) (group : Byte) : Statement (.groupSetupRemoveForm p group) := of_frame rfl List.mem_cons_self
theorem groupServiceIn (p : LinkPort) (group : Byte) : Statement (.groupServiceIn p group) := of_frame rfl List.mem_cons_self
theorem groupServiceOut (p : LinkPort) (group : Byte) : Statement (.groupServiceOut p group) := of_frame rfl List.mem_cons_self
theorem candidateSetup (p : LinkPort) (x : CandidateSetupParams) : Statement (.candidateSetup p x) := of_frame rfl List.mem_cons_self
theorem clockSetup (p : LinkPort) (x : ClockSetupParams) : Statement (.clockSetup p x) := of_frame rfl List.mem_cons_self
theorem severitySetup (p : LinkPort) (type : Byte) (sa : Byte) (nsa : Byte) : Statement (.severitySetup p type sa nsa) := of_frame rfl List.mem_cons_self
theorem cadenceLoadStepForm (p : LinkPort) (first : Byte) (steps : List RawStep) : Statement (.cadenceLoadStepForm p first steps) := of_frame rfl List.mem_cons_self
theorem cadenceLoadDescriptorForm (p : LinkPort) (x : DescriptorParams) : Statement (.cadenceLoadDescriptorForm p x) := of_frame rfl List.mem_cons_self
theorem queueSetup (p : LinkPort) (port : Byte) (threshold : Byte) : Statement (.queueSetup p port threshold) := of_frame rfl List.mem_cons_self
theorem timeSet (p : LinkPort) (seconds : Word32) : Statement (.timeSet p seconds) := of_frame rfl List.mem_cons_self
theorem protectionRequest (p : LinkPort) (group : Byte) (kind : Byte) (channel : Byte) : Statement (.protectionRequest p group kind channel) := of_frame rfl List.mem_cons_self
theorem protectionRequestClear (p : LinkPort) (group : Byte) : Statement (.protectionRequestClear p group) := of_frame rfl List.mem_cons_self
theorem clockRequest (p : LinkPort) (kind : Byte) (cand : Byte) : Statement (.clockRequest p kind cand) := of_frame rfl List.mem_cons_self
theorem candidateLockout (p : LinkPort) (cand : Byte) (kind : Byte) : Statement (.candidateLockout p cand kind) := of_frame rfl List.mem_cons_self
theorem cableMove (p : LinkPort) (port : Byte) (cord : Word32) (end_ : Byte) (cls : Byte) (window : Byte) : Statement (.cableMove p port cord end_ cls window) := of_frame rfl List.mem_cons_self
theorem cableMoveCancel (p : LinkPort) (port : Byte) : Statement (.cableMoveCancel p port) := of_frame rfl List.mem_cons_self
theorem locateOn (p : LinkPort) (port : Byte) (duration : Word16) : Statement (.locateOn p port duration) := of_frame rfl List.mem_cons_self
theorem locateOff (p : LinkPort) (port : Byte) : Statement (.locateOff p port) := of_frame rfl List.mem_cons_self
theorem alarmAcknowledgeIndex (p : LinkPort) (index : Byte) : Statement (.alarmAcknowledgeIndex p index) := of_frame rfl List.mem_cons_self
theorem alarmAcknowledgeSeverity (p : LinkPort) (severity : Byte) : Statement (.alarmAcknowledgeSeverity p severity) := of_frame rfl List.mem_cons_self
theorem alarmAcknowledgeAll (p : LinkPort) : Statement (.alarmAcknowledgeAll p) := of_frame rfl List.mem_cons_self
theorem alarmCutoff (p : LinkPort) : Statement (.alarmCutoff p) := of_frame rfl List.mem_cons_self
theorem readEvents (p : LinkPort) (n : Byte) : Statement (.readEvents p n) := of_frame rfl List.mem_cons_self
theorem readLine (p : LinkPort) (line : Byte) : Statement (.readLine p line) := of_frame rfl List.mem_cons_self
theorem readCable (p : LinkPort) (port : Byte) : Statement (.readCable p port) := of_frame rfl List.mem_cons_self
theorem readGroup (p : LinkPort) (group : Byte) (part : Byte) : Statement (.readGroup p group part) := of_frame rfl List.mem_cons_self
theorem readClock (p : LinkPort) : Statement (.readClock p) := of_frame rfl List.mem_cons_self
theorem readCandidate (p : LinkPort) (cand : Byte) : Statement (.readCandidate p cand) := of_frame rfl List.mem_cons_self
theorem readAlarms (p : LinkPort) (start : Byte) : Statement (.readAlarms p start) := of_frame rfl List.mem_cons_self
theorem readOffice (p : LinkPort) (part : Byte) (first : Byte) : Statement (.readOffice p part first) := of_frame rfl List.mem_cons_self
theorem badFrame (p : LinkPort) (frame : List Byte) : Statement (.badFrame p frame) := of_event rfl
theorem selectAssert (p : CtrlPort) : Statement (.selectAssert p) := of_event rfl
theorem selectRelease (p : CtrlPort) : Statement (.selectRelease p) := of_event rfl
theorem uartError : Statement (.uartError) := of_event rfl
theorem frameGapTimeout : Statement (.frameGapTimeout) := of_event rfl
theorem quietPeriodEnd : Statement (.quietPeriodEnd) := of_event rfl
theorem responseSent : Statement (.responseSent) := of_event rfl
theorem tick1ms (acoPin : Bool) : Statement (.tick1ms acoPin) := of_event rfl
theorem tick100ms : Statement (.tick100ms) := of_event rfl
theorem tick1s : Statement (.tick1s) := of_event rfl
theorem excClear (l : LineIx) : Statement (.excClear l) := of_event rfl
theorem integratedRaise (l : LineIx) (c : Cond) : Statement (.integratedRaise l c) := of_event rfl
theorem integratedClear (l : LineIx) (c : Cond) : Statement (.integratedClear l c) := of_event rfl
theorem connectorPresenceAccepted (l : LineIx) : Statement (.connectorPresenceAccepted l) := of_event rfl
theorem scanStart : Statement (.scanStart) := of_event rfl
theorem inboundRecord (l : LineIx) (record : Vector Byte 7) : Statement (.inboundRecord l record) := of_event rfl
theorem pollSlotExpiry : Statement (.pollSlotExpiry) := of_event rfl
theorem tagReadResult (tag : Vector Byte 6) : Statement (.tagReadResult tag) := of_event rfl
theorem tagReadFailure (f : TagFailure) : Statement (.tagReadFailure f) := of_event rfl
theorem moveWindowExpiry (l : LineIx) : Statement (.moveWindowExpiry l) := of_event rfl
theorem locateTimerExpiry (l : LineIx) : Statement (.locateTimerExpiry l) := of_event rfl
theorem moveOpenedNotice (l : LineIx) : Statement (.moveOpenedNotice l) := of_event rfl
theorem moveClosedNotice (l : LineIx) : Statement (.moveClosedNotice l) := of_event rfl
theorem crossedConditionChange (g : GroupIx) : Statement (.crossedConditionChange g) := of_event rfl
theorem lineSummaryChange (l : LineIx) : Statement (.lineSummaryChange l) := of_event rfl
theorem holdOffExpiry (g : GroupIx) (k : ChanIx) : Statement (.holdOffExpiry g k) := of_event rfl
theorem restoreWaitExpiry (g : GroupIx) : Statement (.restoreWaitExpiry g) := of_event rfl
theorem agreementWaitExpiry (g : GroupIx) : Statement (.agreementWaitExpiry g) := of_event rfl
theorem trialWaitExpiry (g : GroupIx) : Statement (.trialWaitExpiry g) := of_event rfl
theorem selectionOffer (g : GroupIx) : Statement (.selectionOffer g) := of_event rfl
theorem lineDefectChange (l : LineIx) : Statement (.lineDefectChange l) := of_event rfl
theorem cablingStateOffer (l : LineIx) : Statement (.cablingStateOffer l) := of_event rfl
theorem activityWindowExpiry (c : CandIx) : Statement (.activityWindowExpiry c) := of_event rfl
theorem gateStartEdge (c : CandIx) : Statement (.gateStartEdge c) := of_event rfl
theorem gateComplete (c : CandIx) (count : Word32) : Statement (.gateComplete c count) := of_event rfl
theorem candidateOffer (c : CandIx) : Statement (.candidateOffer c) := of_event rfl
theorem resolvedLineOffer (c : CandIx) : Statement (.resolvedLineOffer c) := of_event rfl
theorem qOffer (c : CandIx) (q : Int) : Statement (.qOffer c q) := of_event rfl
theorem holdoverAgeLimit : Statement (.holdoverAgeLimit) := of_event rfl
theorem steerFrameStart : Statement (.steerFrameStart) := of_event rfl
theorem alarmConditionRaise (x : Alarm) : Statement (.alarmConditionRaise x) := of_event rfl
theorem alarmConditionClear (x : Alarm) : Statement (.alarmConditionClear x) := of_event rfl
theorem coverageChange (l : LineIx) (covered : Bool) : Statement (.coverageChange l covered) := of_event rfl
theorem officeOffer (items : List OfferItem) : Statement (.officeOffer items) := of_event rfl
theorem chirpRequest (ch : Chirp) : Statement (.chirpRequest ch) := of_event rfl
theorem cadenceStepEnd : Statement (.cadenceStepEnd) := of_event rfl
theorem pushbuttonPress : Statement (.pushbuttonPress) := of_event rfl
theorem pushbuttonRelease : Statement (.pushbuttonRelease) := of_event rfl
theorem portCByteReceived (b : Byte) : Statement (.portCByteReceived b) := of_event rfl

end Sys2Proof.Laws.SentAsFrame
end

