-- ==== Sys2Proof/Laws/Ticks.lean ====
section
/-!
SUPPORT. Laws/Ticks.lean: the orders that the work of a tick can take, said once, for a proof that must hold for each of them.
-/
namespace Sys2Proof.Machine

variable (s : State)

/-- R81, R82: with no two waits of a group due at one tick, both count, and then each that is due ends. -/
theorem State.tickWaits_apart (g : GroupIx)
    (h : (s.modGroup g Group.tickWaits).groupHas g (fun x => x.agreeDue && x.trialDue) = false) :
    s.tickWaits g = ((s.modGroup g Group.tickWaits).endAgree g).endTrialWait g := by simp [State.tickWaits, h]

/-- R81, R82: the waits of a group end at a tick in one of two orders. -/
theorem State.tickWaits_cases (g : GroupIx) :
    s.tickWaits g = ((s.modGroup g Group.tickWaits).endAgree g).endTrialWait g ∨
    s.tickWaits g = ((s.modGroup g Group.tickWaits).endTrialWait g).endAgree g := by
  unfold State.tickWaits; dsimp only; split
  · exact .inr rfl
  · exact .inl rfl

/-- R2, R79: a scan start at a 1 ms tick latches before the waits end or after it. -/
theorem State.workMilli_cases (pin : Bool) :
    s.workMilli pin = s.tickScan.tickAllWaits.tickPoll.sampleButton pin ∨
    s.workMilli pin = s.tickAllWaits.tickScan.tickPoll.sampleButton pin := by
  unfold State.workMilli; dsimp only; split
  · exact .inr rfl
  · exact .inl rfl

/-- R10, R14: a line's bin closes at a 100 ms tick before its soak sample or after it. -/
theorem State.lineTenth_cases (l : LineIx) :
    s.lineTenth l = ((s.closeExc l).soakSample l).samplePresence l ∨
    s.lineTenth l = ((s.soakSample l).closeExc l).samplePresence l := by
  unfold State.lineTenth; split
  · exact .inr rfl
  · exact .inl rfl

/-- R59: the hold-offs end at a 100 ms tick after the lines' work or before it. -/
theorem State.tenthWork_cases :
    s.tenthWork = (forEach allLines State.lineTenth s).endHoldOffs ∨
    s.tenthWork = forEach allLines State.lineTenth s.endHoldOffs := by
  unfold State.tenthWork; split
  · exact .inr rfl
  · exact .inl rfl

/-- R59: the hold-offs are counted, and then the tick's other work is done. -/
theorem State.workTenth_eq : s.workTenth = s.countHoldOffs.tenthWork := rfl

/-- R85, R86: with a 1 s tick on the 100 ms tick, the seconds rise first, the 1 ms tick's work comes before or after the rest, and
the hold-offs are counted before the other two ticks' work, which is done in one of two orders. -/
theorem State.cascade_second (before after : State → State) (h : s.secondDue = true) :
    s.cascade before after = after ((before s.countSecond).fire .tick1s fun t => t.countHoldOffs.workSecond.tenthWork) ∨
    s.cascade before after = after ((before s.countSecond).fire .tick1s fun t => t.countHoldOffs.tenthWork.workSecond) := by
  unfold State.cascade; rw [if_pos h]; dsimp only; split
  · exact .inl rfl
  · exact .inr rfl

/-- R85: with no 1 s tick on the 100 ms tick, its work is done alone. -/
theorem State.cascade_tenth (before after : State → State) (h : s.secondDue = false) :
    s.cascade before after = after (before s).workTenth := by simp [State.cascade, h]

/-- R64: the restore waits count at a 1 s tick after the lines' work or before it. -/
theorem State.workSecond_cases :
    s.workSecond = (forEach allGroups State.tickRestore s.linesSecond).tickAge ∨
    s.workSecond = (forEach allGroups State.tickRestore s).linesSecond.tickAge := by
  unfold State.workSecond; split
  · exact .inr rfl
  · exact .inl rfl

end Sys2Proof.Machine
end

