-- ==== Sys2Proof/Tests/Slice0.lean ====
section
/-!
SUPPORT. Tests/Slice0.lean: the smoke tests of WellFormed, the worked values of the manual (Sections 5, 6, 10 and 11), one or two
small steps of each family, and for every statement with hypotheses a witness that meets them.
-/
namespace Sys2Proof.Tests

open Sys2Proof.Machine

-- One theorem at a time: waiting kernel checks would each hold a thread.
set_option Elab.async false

/-! ## WellFormed: each check refuses an ill-formed term -/

theorem test_wf_steps :
    wellFormed (.cadenceLoadStepForm .a 0#8 (List.replicate 20 ⟨0#8, 1#8, 0#8⟩)) = false ∧
    wellFormed (.cadenceLoadStepForm .a 0#8 (List.replicate 19 ⟨0#8, 1#8, 0#8⟩)) = true := by decide
theorem test_wf_kind : wellFormed (.protectionRequest .a 0#8 0#8 0#8) = false ∧
    wellFormed (.protectionRequest .a 0#8 15#8 0#8) = true := by decide
theorem test_wf_part : wellFormed (.readOffice .a 1#8 1#8) = false ∧ wellFormed (.readOffice .a 2#8 1#8) = true := by decide
theorem test_wf_good_frame : wellFormed (.badFrame .a [0x03#8, 0x44#8, 0xE4#8]) = false ∧
    wellFormed (.badFrame .a [0x03#8, 0x44#8, 0xE5#8]) = true := by decide +kernel
theorem test_wf_part_frame : wellFormed (.badFrame .a [0x04#8, 0x44#8]) = false := by decide +kernel
theorem test_wf_tag : wellFormed (.tagReadResult #v[0#8, 0#8, 0#8, 1#8, 0x10#8, 0#8]) = false := by decide +kernel
theorem test_wf_resolved : wellFormed (.resolvedLineOffer 1) = false ∧ wellFormed (.resolvedLineOffer 2) = true := by decide
theorem test_wf_offset : wellFormed (.qOffer 0 (-32768)) = false ∧ wellFormed (.qOffer 0 (-32767)) = true := by decide +kernel
theorem test_wf_transient : wellFormed (.alarmConditionClear (.line .moveExpired 3)) = false := by decide +kernel
theorem test_wf_offer : wellFormed (.officeOffer []) = false := by decide

/-! ## Frames, check byte and parity (Section 11) -/

/-- 11.1: the check byte of 0x03, 0x21 is 0xD8, and that of READ CLOCK's frame 0xE4. -/
theorem test_crc : crc8 [0x03#8, 0x21#8] = 0xD8#8 ∧ crc8 [0x03#8, 0x44#8] = 0xE4#8 := by decide +kernel

/-- 11.4: the two worked words: class 9, channel 2, bridge 2, and FORCE 1 with bridge 1, each with all three mode bits 1. -/
theorem test_word_fields : Pcw.build 9 2 2 true true true = 0x922E#16 ∧ Pcw.build 13 1 1 true true true = 0xD11F#16 ∧
    Pcw.cls 0xD11F#16 = 13 ∧ Pcw.chan 0xD11F#16 = 1 ∧ Pcw.bridged 0xD11F#16 = 1 ∧
    oddParity 0xD11F#16 = true ∧ oddParity 0xD11E#16 = false := by decide +kernel

/-- The frame read as one command, with equality tested on the command. -/
def reads (p : LinkPort) (f : List Byte) (i : Instr) : Bool :=
  match parseFrame p f with
  | .ok j => decide (j = i)
  | .error _ => false

/-- The frame refused with a status. -/
def refuses (p : LinkPort) (f : List Byte) (st : Status) : Bool :=
  match parseFrame p f with
  | .ok _ => false
  | .error e => decide (e = st)

/-- The bytes of 11.5, written out, are read as the commands they stand for. -/
theorem test_frames_read :
    reads .c [0x03#8, 0x44#8, 0xE4#8] (.readClock .c) = true ∧
    reads .a (frameOf 0x01#8 [5#8]) (.lineSetupShelfForm .a 5#8) = true ∧
    reads .b (frameOf 0x02#8 [0x01#8, 0x2C#8]) (.cableExpectShelfForm .b 0x012C#16) = true ∧
    reads .a (frameOf 0x23#8 [4#8, 0x00#8, 0x00#8, 0x10#8, 0x05#8, 1#8, 3#8, 30#8])
      (.cableMove .a 4#8 0x00001005#32 1#8 3#8 30#8) = true ∧
    reads .a (frameOf 0x0A#8 [0x12#8, 0x34#8, 0x56#8, 0x78#8]) (.timeSet .a 0x12345678#32) = true ∧
    reads .c (frameOf 0x20#8 [2#8, 0#8, 0#8]) (.protectionRequestClear .c 2#8) = true ∧
    reads .a (frameOf 0x26#8 [1#8, 2#8]) (.alarmAcknowledgeSeverity .a 2#8) = true ∧
    reads .a (frameOf 0x08#8 [0#8, 4#8, 1#8, 1#8, 8#8, 0#8]) (.cadenceLoadStepForm .a 4#8 [⟨1#8, 8#8, 0#8⟩]) = true := by
  decide +kernel

/-- R153: the first test that fails. -/
theorem test_frames_refused :
    refuses .a [0x02#8] .badLength = true ∧ refuses .a [0x03#8, 0x44#8, 0xE5#8] .checkFail = true ∧
    refuses .a (frameOf 0x30#8 []) .unknownCommand = true ∧ refuses .c (frameOf 0x2F#8 []) .notPermitted = true ∧
    refuses .a (frameOf 0x44#8 [1#8]) .badLength = true := by decide +kernel

/-! ## Small states -/

/-- The state after a power-on reset with select asserted on both controller ports, so that every port waits for a frame. -/
def reopen (s : State) : State :=
  { s with links := { s.links with exchangeA := .listening [], exchangeB := .listening [], receiver := .waiting } }
def opened : State := reopen State.reset

/-- Every port waits for a frame in `opened`, and so in each state below that keeps its links: the hypothesis of every statement
about a command. -/
theorem witness_ready : (∀ p : LinkPort, opened.links.ready p = true) ∧
    opened.links = (match exec (.selectAssert .a) State.reset with
      | .next t => (match exec (.selectAssert .b) t with
        | .next u => u.links
        | _ => t.links)
      | _ => opened.links) := by
  constructor
  · intro p; cases p <;> rfl
  · rfl

/-- A 1:N group in service: working lines L0 and L1, protection line L3. -/
def grp : Group :=
  { arch := .oneToN, bidir := true, revertive := true, prot := 3, working := [0, 1], holdOff := 0, restoreTime := 300,
    timeout := 20, inService := true, list := [], chans := Vector.replicate 6 ⟨.none, none⟩, restoreWait := none,
    crossed := false, lastWinner := ⟨.idle, 0, none⟩, eff := ⟨.idle, 0, true⟩, bridged := 0, selected := 0, signal := .quiet,
    tracker := Tracker.initial, mismatch := false, protoFault := false, own := [], agreeWait := none, trialWait := none }

/-- The reset state with that group as group 0. -/
def withGroup (x : Group) : State := opened.setGroup 0 (some x)

/-- A cord on a port, and the reset state with the cord expected at port 4. -/
def cord : Cord := ⟨0x00C30004#32, .a, 3⟩
def planned : State := opened.setPort 4 { CablePort.initial with expect := .planned cord, state := .unverified }
def moving : State := planned.setPort 4 { planned.port 4 with move := some ⟨⟨0x00C30014#32, .a, 3⟩, 30, 0⟩, state := .moving }

/-- An equipped line with its card present and its connector accepted. -/
def present : Line :=
  { Line.initial with
    settings := { LineSettings.default with equipped := true }, presence := .present, connAccepted := true,
    lastGood := { InRecord.zero with cardPresent := true, connPresent := true } }

/-- A qualified station candidate, selected by a loop in LOCKED. -/
def qualified : Candidate :=
  { Candidate.initial .station 1 2 with enabled := true, state := .qualified, goodRun := 3, gate := true, window := true,
                                        eligible := true }
def locked : State :=
  let s := opened.setCand 0 qualified
  { s with clock := { s.clock with loop := .locked, selected := some 0, ownQual := 2, history := 16, average := 53168 } }

/-- An ACTIVE entry for LINE_LOL on L0. -/
def lolEntry : AlarmEntry := ⟨.line .lineLol 0, .critical, true, false, 5#32, none, 1, some true⟩
def alarmed : State := { opened with alarms := { opened.alarms with entries := [lolEntry] } }

/-- The state after one command, for a test on fixed values. -/
def after (i : Instr) (s : State) : State :=
  match exec i s with
  | .next t => t
  | .fault _ => s
  | .refused _ => s

/-- The state after one step. -/
def stepped (s : State) : State :=
  match step s with
  | .next t => t
  | .fault _ => s
  | .refused _ => s

/-- The status a command answers with on a port. -/
def status (i : Instr) (p : LinkPort) (s : State) : Option Status := ((after i s).response p).map (·.status)

/-! ## Witnesses: the step, the invariants and the links -/

theorem witness_own_steps :
    (opened.pending = [] ∧ opened.due = []) ∧
    (let s := { opened with due := [Instr.moveClosedNotice 3] }; s.pending = [] ∧ s.due = [.moveClosedNotice 3]) ∧
    (let s := { opened with fired := [Instr.scanStart, .agreementWaitExpiry 7] }
     Instr.scanStart ∈ s.fired ∧ Instr.agreementWaitExpiry 7 ∈ s.fired) ∧
    (opened.cand 5).gate = false := by decide +kernel

/-- The queues, the alarms, the clock and the map hold something, and a step goes on from there. -/
theorem witness_queues_sound :
    let s := { opened with pending := [.qOffer 0 12] }
    (s.links.queueA.events.length ≤ 64 ∧ s.links.queueA.srq = true) ∧
    ((stepped s).links.queueC.events.length = 1) := by decide +kernel

/-- The bounds of S and H at their ends, and an offset at its end after a gate that exceeds it. -/
theorem witness_clock_bounded :
    let s := { locked with clock := { locked.clock with steer := 32767, average := 8388352 }, pending := [Instr.qOffer 0 32767] }
    let u := { locked with pending := [Instr.gateComplete 0 0#32] }
    (s.clock.steer.natAbs ≤ 32767 ∧ s.clock.average.natAbs ≤ 8388352 ∧ s.clock.settings.freeRun.natAbs ≤ 32767) ∧
    ((stepped s).clock.steer = 32767 ∧ (stepped s).clock.steerLimit = true) ∧
    (∀ c : CandIx, (u.ref.cands.get c).lastQ.natAbs ≤ 32767) ∧ ((stepped u).cand 0).lastQ = 32767 := by decide +kernel

theorem witness_clock_follows :
    let s := { locked with pending := [Instr.activityWindowExpiry 0] }
    ((∀ c : CandIx, (s.cand c).eligible = true → (s.cand c).state = .qualified) ∧ s.clock.loop = .locked ∧
      s.clock.selected = some 0 ∧ (s.cand 0).eligible = true) ∧
    ((stepped s).clock.loop = .holdover ∧ (stepped s).clock.selected = none ∧ (stepped s).clock.steer = 208) := by decide +kernel

/-- The table with one entry, and the relays that agree with it, as its severity falls. -/
theorem witness_alarm_table_sound :
    let s := { alarmed with office := { alarmed.office with relayCrit := true }, pending := [Instr.coverageChange 0 true] }
    let t := stepped s
    (s.alarms.entries.length ≤ 48 ∧ (s.alarms.entries.map (·.alarm)).Nodup ∧
      ∀ e ∈ s.alarms.entries, e.active = true → e.severity = s.alarms.gradeOf e.alarm ∧ e.sa = s.alarms.saFor e.alarm) ∧
    s.alarms.activeSeverities = [.critical] ∧ (s.office.relayCrit, s.office.relayMaj, s.office.relayMin) = (true, false, false) ∧
    (t.alarms.entries.map (fun e => (e.severity, e.sa)) = [(.minor, some false)]) ∧
    (t.office.relayCrit, t.office.relayMaj, t.office.relayMin) = (false, false, true) := by decide +kernel

/-- A 1:N group that selects channel 1 while the far end bridges it. -/
def selecting : Group :=
  { grp with list := [⟨.force, 1, .port .a, none⟩], lastWinner := ⟨.force, 1, some (.port .a)⟩, eff := ⟨.force, 1, true⟩,
             selected := 1, bridged := 1, signal := .switched, tracker := ⟨some 0xD11C#16, 3, 0xD11C#16, true⟩,
             own := [(.force, 1)] }

theorem witness_selects_bridged :
    let s := { withGroup selecting with pending := [Instr.protectionRequestClear .a 0#8] }
    (selecting.selected ≠ 0 ∧ selecting.selected = selecting.eff.chan ∧ selecting.farBridge = selecting.selected) ∧
    (((stepped s).group 0).map (·.selected) = some 0) := by decide +kernel

/-- A covered line, and the outbound fields of the group's lines, until the group leaves service. -/
theorem witness_coverage_current :
    let s := opened.setGroup 0 (some selecting)
    let u := { s with
      prot := { s.prot with covered := s.prot.covered.set 0 true, out := Vector.ofFn fun l => selecting.cmdFor l }
      pending := [Instr.groupServiceOut .a 0#8] }
    (∀ l : LineIx, u.prot.covered.get l = u.prot.coverage l) ∧ u.prot.covered.get 0 = true ∧
    ((stepped u).prot.covered.get 0 = false) ∧
    (selecting.prot :: selecting.working).Nodup ∧ (u.prot.out.get 0).select = .protection ∧
    (∀ l : LineIx, selecting.member l = true → u.prot.out.get l = selecting.cmdFor l) ∧
    (∀ l : LineIx, selecting.member l = false → u.prot.out.get l = ⟨.hold, .hold, idleWord⟩) ∧
    (stepped u).prot.out.get 0 = ⟨.hold, .hold, idleWord⟩ := by decide +kernel

/-- A list with its winner, a move that opens on a line of the group and is followed into its list, and a move closed by a shelf
restart whose notice is still due. -/
theorem witness_lists_sound :
    let s := { withGroup selecting with pending := [Instr.moveOpenedNotice 1] }
    let w := { (withGroup selecting) with pending := [Instr.cableMove .a 1#8 0x00C30014#32 0#8 3#8 30#8] }
    let closing := { selecting with list := selecting.list ++ [⟨.force, 2, .cabling, some 1⟩] }
    let d := { (withGroup closing) with due := [Instr.moveClosedNotice 1] }
    let follows (v : State) (x : Group) : Bool := decide (∀ l : LineIx, x.member l = true →
      (((v.port l).move.isSome = true → x.list.any (ReqEntry.cablingOf l) = true ∧ Instr.moveClosedNotice l ∉ v.due) ∧
       (x.list.any (ReqEntry.cablingOf l) = true → (v.port l).move.isSome = true ∨ Instr.moveClosedNotice l ∈ v.due)))
    ((selecting.list.filter (·.external)).length ≤ 1 ∧ s.winningEntry selecting = some ⟨.force, 1, .port .a, none⟩ ∧
      (∀ e ∈ selecting.list, e.source ≠ .automatic) ∧ (∀ e ∈ selecting.list, e.keeps = false)) ∧
    (((stepped s).group 0).map (fun x => x.list.length) = some 2) ∧
    follows w selecting = true ∧ ((stepped w).port 1).move.isSome = true ∧
    ((stepped w).group 0).map (fun x => follows (stepped w) x && x.list.any (ReqEntry.cablingOf 1)) = some true ∧
    follows d closing = true ∧ (d.port 1).move = none ∧ w.due = [] ∧ d.pending = [] ∧ ((stepped d).group 0).map (·.list) = some selecting.list := by decide +kernel

theorem witness_cabling_map :
    let s := { planned with pending := [Instr.cableMove .a 5#8 0x00C30004#32 0#8 3#8 30#8] }
    ((s.port 4).holds 0x00C30004#32 = true ∧ (∀ q : LineIx, q ≠ 4 → (s.port q).holds 0x00C30004#32 = false) ∧
      s.cabling.outOfTurn.Nodup) ∧
    ((stepped s).response .a = some ⟨.duplicateCord, []⟩) := by decide +kernel

/-- 11.2, 11.6: an outbound record and two events, written out from the layouts. -/
theorem witness_frame_read :
    let out : OutRecord := ⟨.channel 2, .protection, .amber, 9, 0xA1B2#16⟩
    wellFormed (.cadenceLoadStepForm .b 31#8 (List.replicate 19 ⟨1#8, 64#8, 1#8⟩)) = true ∧
    (commandFrame (.cadenceLoadStepForm .b 31#8 (List.replicate 19 ⟨1#8, 64#8, 1#8⟩))).isSome = true ∧
    commandFrame (.readClock .c) = some (.c, [0x03#8, 0x44#8, 0xE4#8]) ∧ craftMay (.readClock .c) = true ∧
    (⟨.ok, []⟩ : Response).sent = [0xA5#8, 0x03#8, 0x00#8, crc8 [0x03#8, 0x00#8]] ∧
    out.slot.take 4 = [0x48#8, 0x52#8, 0xA1#8, 0xB2#8] ∧ out.quality < 16 ∧
    Event.bytes 0 ⟨0x01020304#32, .moveDone 4 0x00C30004#32⟩
      = [12#8, 0x24#8, 1#8, 2#8, 3#8, 4#8, 0x00#8, 0xC3#8, 0x00#8, 0x04#8, 0#8, 0#8] ∧
    Event.bytes 0 ⟨0x01020304#32, .resync⟩ = [2#8, 0#8, 1#8, 2#8, 3#8, 4#8] := by decide +kernel

/-- The states a port may be in when bytes come, and a frame cut at each place, the last byte of a failing one included. -/
theorem witness_frame_runs :
    let row : Instr := .readLine .a 3#8
    let f := frameOf 0x41#8 [3#8]
    let cut (n : Nat) : State := after (.badFrame .a (f.take n)) opened
    let released := after (.selectRelease .a) opened
    let craft : State := { opened with links := { opened.links with receiver := .receiving [0x03#8, 0x44#8] } }
    frameComplete [0x03#8, 0x44#8, 0xE4#8] = true ∧ reads .c [0x03#8, 0x44#8, 0xE4#8] (.readClock .c) = true ∧
    wellFormed row = true ∧ commandFrame row = some (.a, f) ∧ f.length = 4 ∧ frameComplete f = true ∧ reads .a f row = true ∧
    opened.links.ready .a = true ∧ (cut 3).links.ready .a = false ∧ (cut 3).links.exchange .a = .listening (f.take 3) ∧
    frameComplete (f.take 3) = false ∧ (after (.badFrame .a (f.drop 3)) (cut 3)).response .a = (after row opened).response .a ∧
    (after row opened).links.exchange .a = .answered ∧ released.links.exchange .a = .released ∧
    after row released = released ∧ after row (after row opened) = after row opened ∧
    status (.portCByteReceived 0xE4#8) .c craft = some .ok ∧ refuses .c [0x03#8, 0x44#8, 0xE5#8] .checkFail = true ∧
    status (.portCByteReceived 0xE5#8) .c craft = some .checkFail := by decide +kernel

/-- Each test of R153 with a frame at its boundary: lengths 2 and 65, a wrong check byte, codes 0x00, 0x0B, 0x28 and 0x48, codes
0x0A and 0x2F on Port C, a count one off, and a form or flag byte one above its range. -/
theorem witness_refused_frames :
    let answers (code : Byte) (params : List Byte) : Option Status := status (.badFrame .a (frameOf code params)) .a opened
    status (.badFrame .a [2#8]) .a opened = some .badLength ∧ status (.badFrame .b [65#8]) .b opened = some .badLength ∧
    status (.badFrame .c [0x03#8, 0x44#8, 0xE5#8]) .c opened = some .checkFail ∧
    [0x00#8, 0x0B#8, 0x28#8, 0x48#8].map (fun c => answers c []) = List.replicate 4 (some .unknownCommand) ∧
    [0x0A#8, 0x2F#8].map (fun c => status (.badFrame .c (frameOf c [])) .c opened) = List.replicate 2 (some .notPermitted) ∧
    paramCounts 0x41 = some [1] ∧ paramCounts 0x01 = some [1, 12] ∧
    [(0x41#8, []), (0x41#8, [0#8, 0#8]), (0x01#8, List.replicate 11 0#8), (0x08#8, []), (0x08#8, [0#8, 0#8, 1#8, 1#8, 1#8]),
      (0x08#8, [0#8]), (0x08#8, 1#8 :: List.replicate 5 0#8), (0x47#8, []), (0x47#8, [2#8]), (0x47#8, [0#8, 0#8])].map
      (fun x => answers x.1 x.2) = List.replicate 10 (some .badLength) ∧
    [(0x08#8, [2#8]), (0x04#8, [0#8, 2#8]), (0x25#8, [0#8, 2#8, 0#8, 0#8]), (0x26#8, [3#8, 0#8])].map (fun x => answers x.1 x.2)
      = List.replicate 4 (some .outOfRange) ∧
    (commandFrame (.timeSet .c 0#32)).isSome = true ∧ craftMay (.timeSet .c 0#32) = false ∧
    [13#8, 10#8, 8#8].map (fun k => status (.protectionRequest .c 7#8 k 1#8) .c opened)
      = List.replicate 3 (some .notPermitted) := by decide +kernel

/-- Rows of one port, and a port with no frame under way and with one. -/
theorem witness_other_ports :
    LinkPort.b ∉ linkPorts (.selectAssert .a) ∧ LinkPort.c ∉ linkPorts (.readClock .b) ∧
    (after (.readClock .b) opened).links.receiver = .waiting ∧ (∀ p : LinkPort, opened.links.midFrame p = false) ∧
    (after (.badFrame .b [4#8]) opened).links.midFrame .b = true := by
  refine ⟨by decide +kernel, by decide +kernel, by decide +kernel, ?_, by decide +kernel⟩
  intro p; cases p <;> decide +kernel

theorem witness_craft_receiver :
    let r (x : Receiver) : State := { opened with links := { opened.links with receiver := x } }
    (after (.portCByteReceived 3#8) opened).links.receiver = .receiving [3#8] ∧
    (after (.portCByteReceived 64#8) opened).links.receiver = .receiving [64#8] ∧
    status (.portCByteReceived 2#8) .c opened = some .badLength ∧
    frameComplete [4#8, 0x41#8, 0#8] = false ∧ status .frameGapTimeout .c (r (.receiving [4#8])) = some .checkFail ∧
    (after .responseSent (r (.answering true))).links.receiver = .skipping false ∧
    status .quietPeriodEnd .c (r (.skipping true)) = some .checkFail ∧
    (after .quietPeriodEnd (r (.skipping false))).links.receiver = .waiting := by decide +kernel

/-- A queue of Port C with room, and a full one. -/
theorem witness_event_routing :
    let full : EventQueue := ⟨List.replicate 16 ⟨0#32, .resync⟩, false, 1, true⟩
    let s := { opened with links := opened.links.setQueue .c full }
    (opened.links.queue .c).events.length < 16 ∧ 16 ≤ (s.links.queue .c).events.length ∧
    ((s.issue (.moveDone 4 1#32)).links.queue .c).overrun = true ∧
    ((s.issue (.moveDone 4 1#32)).links.queue .a).events.length = 2 := by decide +kernel

/-- READ EVENTS at n = 0, 8 and 9, with the 58 bytes full before eight MOVE_DONE records are taken. -/
theorem witness_read_events :
    let es : List Event := List.replicate 8 ⟨1#32, .moveDone 4 1#32⟩
    let s := { opened with links := opened.links.setQueue .a ⟨es, true, 4, true⟩ }
    status (.readEvents .a 9#8) .a s = some .outOfRange ∧
    ((after (.readEvents .a 0#8) s).links.queue .a).events.length = 8 ∧
    ((after (.readEvents .a 8#8) s).links.queue .a).overrun = false ∧
    recordBytes (es.take 4) ≤ 58 ∧ 58 < recordBytes (es.take 5) ∧
    ((after (.readEvents .a 8#8) s).links.queue .a).events.length = 8 - 4 + 1 := by decide +kernel

theorem witness_queue_setup :
    [(0#8, 1#8), (1#8, 32#8), (2#8, 16#8), (2#8, 32#8), (3#8, 4#8), (0#8, 5#8)].map
      (fun x => status (.queueSetup .a x.1 x.2) .a opened)
      = [some .ok, some .ok, some .ok, some .okClamped, some .outOfRange, some .outOfRange] := by decide +kernel

/-- Each read at the ends of its ranges, with the first results of each part. -/
theorem witness_reads :
    let head (i : Instr) (n : Nat) (s : State) : Option (List Byte) := ((after i s).response .a).map (·.results.take n)
    let locating := opened.setCand 2 { Candidate.initial (.group 7 5) 8 4 with enabled := true }
    status (.readLine .c 15#8) .c opened = some .ok ∧ status (.readLine .c 16#8) .c opened = some .outOfRange ∧
    head (.readCable .a 4#8) 7 planned = some [0x20#8, 0x00#8, 0xC3#8, 0x00#8, 0x04#8, 0x00#8, 0x30#8] ∧
    status (.readCable .a 16#8) .a opened = some .outOfRange ∧
    (after (.readGroup .a 7#8 1#8) opened).response .a = some ⟨.ok, [0x00#8]⟩ ∧
    head (.readGroup .a 0#8 1#8) 2 (withGroup selecting) = some [0x80#8, 1#8] ∧
    head (.readGroup .a 0#8 0#8) 8 (withGroup selecting) = some [0xF0#8, 3#8, 0#8, 1#8, 0xFF#8, 0xFF#8, 0xFF#8, 0xFF#8] ∧
    status (.readGroup .a 8#8 0#8) .a opened = some .outOfRange ∧ status (.readGroup .a 0#8 2#8) .a opened = some .outOfRange ∧
    head (.readClock .a) 1 locked = some [0x21#8] ∧
    head (.readCandidate .a 3#8) 5 locating = some [0x80#8, 0x40#8, 7#8, 0x60#8, 8#8] ∧
    status (.readCandidate .a 6#8) .a opened = some .ok ∧ status (.readCandidate .a 7#8) .a opened = some .outOfRange ∧
    ((after (.readAlarms .a 48#8) alarmed).response .a) = some ⟨.ok, [1#8, 0#8]⟩ ∧
    status (.readAlarms .a 49#8) .a opened = some .outOfRange ∧
    head (.readOffice .a 0#8 0#8) 1 alarmed = some [0x10#8] ∧
    head (.readOffice .a 1#8 0#8) 5 opened = some [0#8, 2#8, 0#8, 31#8, 7#8] ∧
    head (.readOffice .a 2#8 16#8) 16 opened = some ((List.range 16).map fun i => BitVec.ofNat 8 (16 + i)) ∧
    head (.readOffice .a 2#8 31#8) 1 opened = some [31#8] ∧
    status (.readOffice .a 2#8 31#8) .a opened = some .ok ∧ status (.readOffice .a 2#8 32#8) .a opened = some .outOfRange ∧
    status (.readOffice .a 3#8 0#8) .a opened = some .outOfRange := by
  decide +kernel

/-- R159, R148, R120: READ CLOCK takes all 61 result bytes of a response, and sixteen STEPS 36. R107, R169: its issuer is one bit,
before the eligible flag of SC1. -/
theorem test_reads_fit :
    let held (p : LinkPort) : State := { locked with clock := { locked.clock with slot := .forceHoldover, issuer := some p } }
    let clock (p : LinkPort) : List Byte := match (after (.readClock .a) (held p)).response .a with
      | some r => r.results
      | none => []
    ((after (.readOffice .a 2#8 0#8) opened).response .a).map (·.results.length) = some 36 ∧
    (clock .b).length = 61 ∧ (clock .a)[19]? = some 0x40#8 ∧ (clock .b)[19]? = some 0xC0#8 := by decide +kernel

/-- R138: a restart with LOL integrated on L0 at its soak time, with its entry and without. -/
theorem witness_restart :
    let s := opened.setLine 0 { present with soak := { PerCond.all ⟨0, 0, false⟩ with lol := ⟨25, 0, true⟩ } }
    let t : State := { s with alarms := alarmed.alarms }
    s.links.ready .a = true ∧ ((s.line 0).soak.get .lol).integrated = true ∧
    status (.shelfRestart .a) .a s = some .ok ∧ status (.shelfRestart .a) .a t = some .ok ∧
    (t.alarms.entries.length ≤ 48 ∧ (t.alarms.entries.map (·.alarm)).Nodup ∧
      ∀ e ∈ t.alarms.entries, e.active = true → e.severity = t.alarms.gradeOf e.alarm ∧ e.sa = t.alarms.saFor e.alarm) ∧
    (∀ l : LineIx, ∀ k ∈ allConds, ((t.line l).soak.get k).integrated = true →
      ∃ e ∈ t.alarms.entries, e.alarm = .line (Cond.alarm k) l ∧ e.active = true) := by decide +kernel

/-! ## Witnesses and tests: lines and ticks -/

theorem witness_settings :
    [0#8, 1#8, 8#8, 9#8].map (fun n => (status (.lineSetupShelfForm .a n) .a opened, (after (.lineSetupShelfForm .a n) opened).scan.interval))
      = [(some .okClamped, 1), (some .ok, 1), (some .ok, 8), (some .okClamped, 8)] ∧
    status (.locateOn .c 15#8 9#16) .c opened = some .okClamped ∧ status (.locateOn .c 16#8 10#16) .c opened = some .outOfRange := by
  decide +kernel

/-- R12: clear thresholds at or above the set threshold are kept below it, a clear threshold 0 beside a set threshold 1 is clamped
and so kept; line 15 and line 16. -/
theorem witness_line_setup :
    let x : LineSetupParams := ⟨15#8, 1#8, 5#8, 30#8, 1#16, 65535#16, 500#16, 499#16⟩
    status (.lineSetupLineForm .a x) .a opened = some .okClamped ∧
    (((after (.lineSetupLineForm .a x) opened).line 15).settings = ⟨true, 5, 30, 1, 0, 500, 499⟩) ∧
    status (.lineSetupLineForm .a { x with excClear := 0#16 }) .a opened = some .okClamped ∧
    ((after (.lineSetupLineForm .a { x with excClear := 0#16 }) opened).line 15).settings.excClear = 0 ∧
    status (.lineSetupLineForm .a { x with excSet := 2#16, excClear := 1#16 }) .a opened = some .ok ∧
    status (.lineSetupLineForm .a { x with line := 16#8 }) .a opened = some .outOfRange := by decide +kernel

/-- 11.2: a good record with every bit and field the manual lays out, built byte by byte. -/
def record (b0 b1 b2 b3 : Byte) (word : Word16) : Vector Byte 7 :=
  let w := twoBytes word
  let body := [b0, b1, b2, b3] ++ w
  #v[b0, b1, b2, b3, w.getD 0 0#8, w.getD 1 0#8, crc8 body]

/-- R4: a record is bad for a wrong check byte, or for a must-be-zero bit that is 1. -/
theorem witness_records :
    goodRecord (record 0xC0#8 0x14#8 0x20#8 9#8 0x0001#16) = true ∧ goodRecord (record 0xC1#8 0x14#8 0x20#8 9#8 0x0001#16) = false ∧
    goodRecord (record 0xC0#8 0x15#8 0x20#8 9#8 0x0001#16) = false ∧ goodRecord (record 0xC0#8 0x14#8 0x21#8 9#8 0x0001#16) = false ∧
    goodRecord #v[0xC0#8, 0x14#8, 0x20#8, 9#8, 0#8, 1#8, 0#8] = false ∧ goodRecord (Vector.replicate 7 0#8) = true := by decide +kernel

/-- R6, R9, R13: an absent card's record clears the bins of a present one; a third bad record makes CARD_UNREADABLE present. -/
theorem witness_record_processed :
    let s := opened.setLine 2 { present with excBin := 7, badCount := 2 }
    let t := after (.inboundRecord 2 (record 0x20#8 0#8 0#8 9#8 0#16)) s
    let u := after (.inboundRecord 2 (record 0xC1#8 0#8 0#8 9#8 0#16)) s
    (s.line 2).badCount = 2 ∧ (s.line 2).presence ≠ .absent ∧
    (t.line 2).presence = .absent ∧ (t.line 2).excBin = 0 ∧ (t.line 2).badCount = 0 ∧
    (u.line 2).raw.cardUnreadable = true ∧ (u.line 2).badCount = 3 ∧ (u.line 2).excBin = 0 := by decide +kernel

/-- R17: an echo that differs in its third record raises SELECTOR_FAULT; an echo that agrees clears it. R50: with HOLD in the
image in use, as at the first scan after a group leaves service, the same record is not compared. -/
theorem witness_echo :
    let sent := { OutRecord.initial with select := .own, bridge := .none }
    let ln := { present with mismatchRun := 2, out := sent, prevOut := sent }
    let s := opened.setLine 0 ln
    let differs : Instr := .inboundRecord 0 (record 0xC0#8 0x18#8 0#8 0#8 0#16)
    let t := after differs s
    let u := after (.inboundRecord 0 (record 0xC0#8 0x14#8 0#8 0#8 0#16)) t
    let left := after differs (s.setLine 0 { ln with out := OutRecord.initial })
    ((t.line 0).mismatchRun, (t.line 0).selectorFault, t.alarms.entries.length) = (3, true, 1) ∧
    ((u.line 0).mismatchRun, (u.line 0).selectorFault) = (0, false) ∧
    ((left.line 0).mismatchRun, (left.line 0).selectorFault) = (0, false) := by decide +kernel

theorem witness_conditions :
    let s := opened.setLine 0 { present with raw := { PerCond.all false with exc := true }, clearRun := 9 }
    let t := after (.integratedRaise 0 .sd) s
    (s.line 0).settings.equipped = true ∧ ((s.line 0).soak.get .sd).integrated = false ∧
    ((after (.excClear 0) s).line 0).clearRun = 0 ∧ ((t.line 0).soak.get .sd).integrated = true ∧ t.alarms.entries.length = 1 ∧
    (((after (.integratedClear 0 .sd) t).line 0).soak.get .sd).integrated = false ∧
    after (.integratedRaise 1 .sd) s = s := by decide +kernel

theorem witness_presence :
    let s := planned.setLine 4 { present with connAccepted := false }
    let t := after (.connectorPresenceAccepted 4) s
    (s.line 4).lastGood.connPresent ≠ (s.line 4).connAccepted ∧ (s.port 4).move = none ∧
    (t.port 4).state = .unverified ∧ t.cabling.outOfTurn = [4] ∧
    ((after (.connectorPresenceAccepted 4) (moving.setLine 4 present)).port 4).state = .moving := by decide +kernel

theorem witness_scan :
    let s := opened.setLine 0 present
    Instr.scanStart ∉ s.fired ∧ ((after .scanStart s).line 0).out.lamp = .green ∧ ((after .scanStart s).line 1).out.lamp = .off ∧
    ((after .scanStart (s.setPort 0 { s.port 0 with locate := some ⟨10, 0⟩ })).line 0).out.lamp = .locateFlash := by decide +kernel

/-- R85: the tick counts, short of and at the boundary. R141: the ninth and the tenth sample of a low ACO_PB*. -/
theorem witness_ticks :
    let s (m n : Nat) : State := { opened with time := ⟨m, 0, 0xFFFFFFFF#32⟩, office := { Office.initial with buttonCount := n } }
    (after (.tick1ms true) (s 98 9)).time = ⟨99, 0, 0xFFFFFFFF#32⟩ ∧ (s 98 9).countMilli.tenthDue = false ∧
    (s 99 9).countMilli.tenthDue = true ∧ (s 0 0).countSecond.time = ⟨0, 0, 0#32⟩ ∧
    (after (.tick1ms false) (s 0 8)).office.buttonHigh = true ∧ (after (.tick1ms false) (s 0 9)).office.buttonHigh = false ∧
    (s 0 9).office.buttonHigh = true ∧ Instr.tick100ms ∉ opened.fired ∧ Instr.tick1s ∉ opened.fired := by decide +kernel

/-- R81, R82: a group's waits one tick short of the protocol timeout and at it, the far-end request disregarded or not, and the
TRIAL that the trial wait ends. The scan latches at none of these ticks, so its place among them does not matter. -/
theorem witness_wait_ticks :
    let g (a t : Option Nat) : Group := { grp with agreeWait := a, trialWait := t, list := [⟨.trial, 1, .port .a, none⟩] }
    let off : Group := { selecting with agreeWait := some 199, protoFault := false }
    let ends (n : Nat) : Bool := decide (grp.timeout * 10 ≤ n + 1)
    (ends 198, ends 199) = (false, true) ∧ grp.disregarded = false ∧ off.disregarded = true ∧
    (∃ e ∈ (g none (some 199)).list, e.external = true ∧ e.cls = .trial) ∧
    (after (.tick1ms true) (withGroup (g (some 198) (some 198)))).group 0 = some (g (some 199) (some 199)) ∧
    (withGroup (g (some 199) (some 198))).waitsDue = true ∧ (withGroup (g (some 198) (some 199))).waitsDue = true ∧
    (withGroup off).waitsDue = true ∧
    (State.tickAllWaits (withGroup (g (some 199) (some 198)))).group 0
      = some { g none (some 199) with protoFault := true } ∧
    ((State.tickAllWaits (withGroup (g (some 198) (some 199)))).group 0).map (fun x => (x.trialWait, x.list)) = some (none, []) ∧
    ((State.tickAllWaits (withGroup off)).group 0).map (fun x => x.list) = some off.list := by decide +kernel

/-- R10, R11, R14: an EXC bin of 1,999, an SD bin of 500, and a condition at its 25th sample. R16: the first and the second sample
of a changed connector. R37, R40: the last second. R59: a hold-off short of its time and at it. R115: the age count at the limit. -/
theorem witness_slow_ticks :
    let ln := { present with
      excBin := 1999, sdBin := 500, raw := { PerCond.all false with lol := true }
      soak := { PerCond.all ⟨0, 0, false⟩ with lol := ⟨24, 0, false⟩ } }
    let s := moving.setLine 0 ln
    let t := after .tick100ms s
    let u := after .tick1s (s.setPort 4 { s.port 4 with move := some ⟨cord, 1, 59⟩, locate := some ⟨10, 9⟩ })
    let unplugged (n : Nat) : Line := { present with lastGood := { present.lastGood with connPresent := false }, connCount := n }
    let plug (n : Nat) : Line := (after .tick100ms (opened.setLine 2 (unplugged n))).line 2
    let holding (n : Nat) : State := withGroup { grp with holdOff := 3, chans := grp.chans.set 0 ⟨.sf, some n⟩ }
    let held (n : Nat) : Option Chan := ((after .tick100ms (holding n)).group 0).map fun x => x.chans.get 0
    let old (n : Nat) : State := { opened with clock := { opened.clock with loop := .holdover, ageCount := n } }
    let age (n : Nat) : Nat × Bool := let k := (after .tick1s (old n)).clock; (k.ageCount, k.aged)
    s.time.tenths + 1 < 10 ∧ (t.line 0).raw.exc = false ∧ (t.line 0).lastExcBin = 1999 ∧ (t.line 0).soak.lol = ⟨25, 0, true⟩ ∧
    (u.line 0).raw.sd = true ∧ (u.port 4).move = none ∧ (u.port 4).locate = none ∧
    ((plug 0).connAccepted, (plug 0).connCount) = (true, 1) ∧ ((plug 1).connAccepted, (plug 1).connCount) = (false, 0) ∧
    held 1 = some ⟨.sf, some 2⟩ ∧ (holding 2).countHoldOffs.holdOffsDue = true ∧
    (holding 2).countHoldOffs.endHoldOffs.group 0 ≠ (holding 2).group 0 ∧
    age 259200 = (259200, true) ∧ (age 0).1 = 1 := by decide +kernel

/-- R85: the ticks that bring a 100 ms tick and a 1 s tick, short of each boundary and at it. -/
theorem witness_brought_ticks :
    let s (m t : Nat) : State := { opened with time := ⟨m, t, 0#32⟩ }
    (100 ≤ (s 99 8).time.millis + 1 ∧ (s 99 8).time.tenths + 1 < 10) ∧ 10 ≤ (s 99 9).time.tenths + 1 ∧
    ¬ 100 ≤ (s 98 9).time.millis + 1 ∧ Instr.tick100ms ∉ (s 0 9).fired := by decide +kernel

/-- R59, R85: an SD closing of a 1 s tick starts a hold-off of one step, which the 100 ms tick of the same instant neither counts
nor ends, in either order of the two ticks' work; the hold-offs are counted before both. -/
theorem witness_hold_off_brought :
    let x : Group := { grp with holdOff := 1, bidir := false }
    let s := (withGroup x).setLine 0 { present with sdBin := 60000 }
    let u := s.countHoldOffs
    let held (t : State) : Option Chan := (t.group 0).map fun y => y.chans.get 0
    (x.chans.get 0).hold = none ∧ x.holdOff ≠ 0 ∧
    held u.workSecond.tenthWork = some ⟨.sd, some 0⟩ ∧ held u.tenthWork.workSecond = some ⟨.sd, some 0⟩ := by decide +kernel

/-- R64: a restore wait one tick short of its time and at it, at a tick where no SD and no move changes: the waits come before
the lines' work or after it, and the result is the same. -/
theorem witness_restore_ticks :
    let x (n : Nat) : Group := { grp with restoreWait := some n, list := [⟨.restoreWait, 1, .automatic, none⟩], selected := 1 }
    let s (n : Nat) : State := withGroup (x n)
    let waits (t : State) : State := forEach allGroups State.tickRestore t
    let sees (t : State) : Option (Option Nat × Nat) := (t.group 0).map fun y => (y.restoreWait, y.list.length)
    let calm (t : State) : Bool := decide (∀ l : LineIx, (t.line l).raw.sd = false ∧ (t.port l).move.isSome = false)
    (s 298).restoresOpen = true ∧ (s 298).prot.groupOf 0 = some 0 ∧ grp.restoreTime = 300 ∧
    [298, 299].map (fun n => (sees (waits (s n)).linesSecond, sees (waits (s n).linesSecond)))
      = [(some (some 299, 1), some (some 299, 1)), (some (none, 0), some (none, 0))] ∧
    [298, 299].all (fun n => calm (s n) && calm (waits (s n)).linesSecond && calm (waits (s n).linesSecond)) = true := by
  decide +kernel

/-! ## Witnesses and tests: cabling -/

theorem witness_expectation :
    let s := (planned.setPort 5 { CablePort.initial with expect := .vacant, state := .swapped 4, failed := 2, run := some (.elsewhere 4, 2) })
    let t := after (.cableExpectPortForm .a 4#8 0#8 0#32 0#8 0#8) s
    status (.cableExpectPortForm .a 5#8 2#8 0x00C30004#32 1#8 15#8) .a s = some .duplicateCord ∧
    status (.cableExpectPortForm .a 5#8 2#8 0xFFFFFFFF#32 1#8 15#8) .a s = some .outOfRange ∧
    status (.cableExpectPortForm .a 4#8 0#8 0#32 0#8 0#8) .a moving = some .busy ∧
    (t.port 4).state = .unplanned ∧ (t.port 5).state = .unexpected ∧ (t.port 5).failed = 0 ∧ (t.port 5).run = none ∧
    t.cabling.outOfTurn.length = 2 := by decide +kernel

/-- R35, R32, R57: the checks at their boundaries, a port that is SWAPPED naming the one that opens its move, and the request of a
member line, where a closing notice is due and where none is. -/
theorem witness_move_opened :
    let i (id : Word32) (w : Byte) : Instr := .cableMove .c 4#8 id 0#8 1#8 w
    let s := planned.setPort 5 { CablePort.initial with expect := .vacant, state := .swapped 4 }
    let t := after (i 0x00C30014#32 120#8) s
    let x := { grp with working := [0, 4], list := [⟨.force, 2, .cabling, some 4⟩] }
    let list (g : Group) (due : List Instr) : Option (List ReqEntry) :=
      ((after (i 0x00C30014#32 30#8) { (planned.setGroup 0 (some g)) with due := due }).group 0).map (·.list)
    [i 0x00C30014#32 0#8, i 0x00C30014#32 120#8, i 0x00C30004#32 30#8, i 0#32 30#8].map (fun x => status x .c planned)
      = [some .okClamped, some .ok, some .duplicateCord, some .outOfRange] ∧
    status (i 1#32 30#8) .c moving = some .busy ∧ (t.port 4).state = .moving ∧
    (t.port 5).state = .unexpected ∧ t.cabling.outOfTurn = [4, 5] ∧
    list { x with list := [] } [] = some x.list ∧ list x [.moveClosedNotice 4] = some x.list ∧
    list { x with prot := 4, working := [0], list := [] } [] = some [⟨.lockout, 0, .cabling, some 4⟩] := by decide +kernel

/-- R37: the window's end raises MOVE_EXPIRED in a table with room, and where its entry stands already. -/
theorem witness_move_abandoned :
    let entry : AlarmEntry := ⟨.line .moveExpired 4, .minor, true, true, 0#32, none, 1, some true⟩
    let stands : State := { moving with alarms := { moving.alarms with entries := [entry] } }
    let again := (after (.moveWindowExpiry 4) stands).alarms.entries.filter fun e => e.alarm == .line .moveExpired 4
    status (.cableMoveCancel .c 4#8) .c moving = some .ok ∧ status (.cableMoveCancel .c 4#8) .c planned = some .notConfigured ∧
    status (.cableMoveCancel .c 16#8) .c moving = some .outOfRange ∧
    ((after (.moveWindowExpiry 4) moving).port 4).state = .missing ∧
    moving.prot.groupOf 4 = none ∧ (∀ c : CandIx, (moving.cand c).resolved ≠ some 4) ∧ moving.alarms.entries.length ≤ 24 ∧
    (after (.moveWindowExpiry 4) moving).alarms.entries.map (·.alarm) = [.line .cableMissing 4, .line .moveExpired 4] ∧
    stands.alarms.gradeOf entry.alarm = .minor ∧ stands.alarms.saFor entry.alarm = some true ∧
    again.map (fun e => (e.active, e.acked, e.count)) = [(true, false, 2)] := by decide +kernel

/-- 11.3: the tag of cord 0x00C30014, end A, class 3. -/
def tag (id : Byte) (b4 : Byte) : Vector Byte 6 := #v[0#8, 0xC3#8, 0#8, id, b4, crc8 [0#8, 0xC3#8, 0#8, id, b4]]

/-- R28: each class of tag on a PLANNED port, a VACANT port and a port with a move open. -/
theorem witness_tag_classified :
    let c := planned.cabling
    let vacant := (planned.setPort 5 { CablePort.initial with expect := .vacant }).cabling
    (c.ports.get 4).move = none ∧ (c.ports.get 4).expect = .planned cord ∧
    [tag 4#8 0x30#8, tag 4#8 0x31#8, tag 4#8 0x40#8, tag 5#8 0x30#8].map (fun x => classify c 4 (readTag x))
      = [.agree, .wrongEnd, .wrongClass, .foreign] ∧
    classify (planned.setPort 9 { CablePort.initial with expect := .planned ⟨0x00C30005#32, .b, 1⟩ }).cabling 4 (readTag (tag 5#8 0x30#8))
      = .elsewhere 9 ∧ classify c 4 ⟨0#32, .a, 3⟩ = .blank ∧
    (vacant.ports.get 5).expect = .vacant ∧ (vacant.ports.get 5).move = none ∧
    [tag 4#8 0x30#8, tag 5#8 0x30#8].map (fun x => classify vacant 5 (readTag x)) = [.elsewhere 4, .other] ∧
    ((moving.cabling.ports.get 4).move).isSome = true ∧
    [tag 0x14#8 0x30#8, tag 0x14#8 0x31#8, tag 4#8 0x30#8].map (fun x => classify moving.cabling 4 (readTag x))
      = [.agree, .notYet, .notYet] := by decide +kernel

theorem witness_tag_applied :
    let r (s : State) : State := { s with cabling := { s.cabling with read := some 4 } }
    let once := r (moving.setPort 4 { moving.port 4 with agreeRun := 1 })
    let foreign := r (planned.setPort 4 { planned.port 4 with run := some (.foreign, 1) })
    let failed := r (planned.setPort 4 { planned.port 4 with failed := 2 })
    goodTag (tag 0x14#8 0x30#8) = true ∧ ((after (.tagReadResult (tag 4#8 0x30#8)) (r planned)).port 4).state = .agreed ∧
    ((after (.tagReadResult (tag 5#8 0x30#8)) foreign).port 4).state = .mismatch .foreign ∧
    ((after (.tagReadResult (tag 0x14#8 0x30#8)) once).port 4).expect = .planned ⟨0x00C30014#32, .a, 3⟩ ∧
    ((after (.tagReadResult (tag 0x14#8 0x30#8)) (r moving)).port 4).agreeRun = 1 ∧
    ((after (.tagReadFailure .noResponse) failed).port 4).state = .unreadable := by decide +kernel

theorem witness_port_chosen :
    let s := planned.setLine 4 present
    let t := { s with cabling := { s.cabling with outOfTurn := [7, 4, 9] } }
    Instr.pollSlotExpiry ∉ s.fired ∧ (after .pollSlotExpiry t).cabling.read = some 4 ∧
    (after .pollSlotExpiry t).cabling.outOfTurn = [9] ∧ (after .pollSlotExpiry s).cabling.read = some 4 ∧
    (after .pollSlotExpiry s).cabling.roundRobin = 4 ∧ (after .pollSlotExpiry planned).cabling.read = none := by decide +kernel

/-! ## Witnesses and tests: protection -/

/-- R52: the older of two entries of one class wins; a held SIGNAL_DEGRADE takes no part. -/
theorem witness_winner :
    let x := { grp with list := [⟨.signalDegrade, 1, .automatic, none⟩, ⟨.manual, 2, .port .b, none⟩] }
    let s := (withGroup x).setLine 3 { present with raw := { PerCond.all false with sd := true } }
    s.winningEntry x = some ⟨.manual, 2, .port .b, none⟩ ∧ (withGroup x).winningEntry x = some ⟨.signalDegrade, 1, .automatic, none⟩ ∧
    s.winningEntry { x with list := [⟨.signalDegrade, 1, .automatic, none⟩] } = none := by decide +kernel

/-- R76 to R80: a far-end request of higher class, one of equal class and lower channel, and a local request. -/
theorem witness_effective :
    let far (w : Word16) : Group := { grp with tracker := ⟨some w, 3, w, true⟩ }
    let x := far (Pcw.build 13 1 1 true true true)
    (x.bidir = true ∧ x.mismatch = false ∧ x.farRequest = (.force, 1) ∧ (.force, 1) ∉ x.own) ∧
    (x.formed ⟨.idle, 0, none⟩).eff = ⟨.force, 1, false⟩ ∧ (x.formed ⟨.idle, 0, none⟩).selected = 1 ∧
    (x.formed ⟨.force, 2, some (.port .a)⟩).eff = ⟨.force, 1, false⟩ ∧
    (x.formed ⟨.lockout, 0, some (.port .a)⟩).eff = ⟨.lockout, 0, true⟩ ∧
    (x.formed ⟨.lockout, 0, some (.port .a)⟩).signal = .releasing ∧
    (grp.formed ⟨.manual, 2, some (.port .a)⟩).signal = .requesting ∧
    ({ grp with arch := .onePlusOne, working := [0] }.formed ⟨.trial, 1, some (.port .a)⟩).selected = 0 := by decide +kernel

/-- R74: no accepted word, one of the other architecture, and classes with a channel that fits or does not. R79: the fields sent on
the protection line and on a working line. -/
theorem witness_far_and_sent :
    let far (w : Word16) : Group := { grp with tracker := ⟨some w, 3, w, true⟩ }
    let out := (grp.formed ⟨.manual, 2, some (.port .a)⟩).cmdFor
    let own := (far (Pcw.build 13 2 2 true true true)).formed ⟨.force, 2, some (.port .a)⟩
    grp.farRequest = (.idle, 0) ∧ grp.tracker.received = false ∧ (Pcw.build 13 1 1 false true true).getLsbD 3 = false ∧
    [Pcw.build 13 1 1 false true true, Pcw.build 13 2 1 true true true, Pcw.build 13 3 1 true true true,
      Pcw.build 13 0 1 true true true, Pcw.build 14 0 2 true true true, Pcw.build 15 1 2 true true true].map
      (fun w => ((far w).farRequest, (far w).farBridge))
      = [((.idle, 0), 0), ((.force, 2), 1), ((.idle, 0), 1), ((.idle, 0), 1), ((.protFail, 0), 2), ((.idle, 0), 2)] ∧
    out 3 = ⟨.channel 1, .own, Pcw.build 10 2 2 true true true⟩ ∧ out 0 = ⟨.none, .own, 0x0001#16⟩ ∧
    (Pcw.build 10 2 2 true true true).toNat / 4096 = ReqClass.code .manual ∧
    own.selected = 2 ∧ own.cmdFor 1 = ⟨.none, .protection, 0x0001#16⟩ ∧ grp.chanOf 1 = some 1 := by decide +kernel

/-- R70 to R73: words with a run of 1, of 3, with bad parity, and the loss of light. -/
theorem witness_word_accepted :
    let w : Word16 := 0xD11F#16
    let s := withGroup { grp with tracker := ⟨some w, 2, 0x0001#16, false⟩ }
    let t (r : Vector Byte 7) : Option Tracker := ((after (.inboundRecord 3 r) s).group 0).map (·.tracker)
    s.prot.role 3 = .protection 0 ∧ t (record 0xC2#8 0x14#8 0#8 0#8 w) = some ⟨some w, 3, w, true⟩ ∧
    t (record 0xC2#8 0x14#8 0#8 0#8 0x0001#16) = some ⟨some 0x0001#16, 1, 0x0001#16, false⟩ ∧
    t (record 0xC2#8 0x14#8 0#8 0#8 0xD11E#16) = some ⟨some w, 2, 0x0001#16, false⟩ ∧
    t (record 0xE2#8 0x14#8 0#8 0#8 w) = some Tracker.initial := by decide +kernel

/-- R54, R55: the checks at their boundaries, an equal class refused, a higher class taken. -/
theorem witness_requests :
    let s := withGroup selecting
    [Instr.protectionRequest .a 8#8 15#8 0#8, .protectionRequest .a 0#8 14#8 0#8, .protectionRequest .a 1#8 13#8 1#8,
      .protectionRequest .a 0#8 13#8 0#8, .protectionRequest .a 0#8 13#8 3#8, .protectionRequest .a 0#8 10#8 2#8].map (fun i => status i .a s)
      = [some .outOfRange, some .outOfRange, some .notConfigured, some .outOfRange, some .outOfRange, some .ok] ∧
    status (.protectionRequest .b 0#8 13#8 2#8) .b s = some .outranked ∧
    status (.protectionRequest .a 0#8 15#8 0#8) .a (withGroup { grp with inService := false }) = some .notPermitted ∧
    status (.protectionRequest .c 0#8 15#8 9#8) .c s = some .ok ∧
    ((after (.protectionRequest .c 0#8 15#8 9#8) s).group 0).map (·.list) = some [⟨.lockout, 0, .port .c, none⟩] ∧
    status (.protectionRequestClear .c 0#8) .c s = some .notIssuer ∧ status (.protectionRequestClear .b 0#8) .b s = some .ok ∧
    ((after (.protectionRequestClear .b 0#8) s).group 0).map (·.list) = some [] ∧
    status (.protectionRequestClear .c 0#8) .c (withGroup grp) = some .ok := by decide +kernel

theorem witness_group_configured :
    let x : GroupSetupParams := ⟨7#8, 1#8, 1#8, 0#8, 15#8, 6#8, #v[0#8, 1#8, 2#8, 3#8, 4#8, 5#8], 101#8, 29#16, 4#8⟩
    let i (y : GroupSetupParams) : Option Status := status (.groupSetupConfigureForm .a y) .a (withGroup grp)
    let free : GroupSetupParams := { x with working := #v[5#8, 6#8, 7#8, 8#8, 9#8, 10#8] }
    [free, x, { free with count := 0#8 }, { free with arch := 0#8 }, { free with group := 0#8 }, { free with group := 8#8 }].map i
      = [some .okClamped, some .memberConflict, some .outOfRange, some .outOfRange, some .groupInService, some .outOfRange] ∧
    ((after (.groupSetupConfigureForm .a free) opened).group 7).map (fun y => (y.holdOff, y.restoreTime, y.timeout)) = some (100, 30, 5) ∧
    [{ free with arch := 2#8 }, { free with direction := 2#8 }, { free with revertive := 2#8 }, { free with prot := 16#8 },
      { free with count := 7#8 }, { free with working := #v[5#8, 6#8, 7#8, 8#8, 9#8, 16#8] }].map i
      = List.replicate 6 (some .outOfRange) ∧
    i { free with count := 5#8, working := #v[5#8, 6#8, 7#8, 8#8, 9#8, 200#8] } = some .okClamped ∧
    status (.groupSetupRemoveForm .a 0#8) .a (withGroup grp) = some .groupInService ∧
    (after (.groupSetupRemoveForm .a 0#8) (withGroup { grp with inService := false })).group 0 = none := by decide +kernel

/-- R47 to R50, R63: entry to service with a position adopted, and leaving it. -/
theorem witness_group_served :
    let x := { grp with arch := .onePlusOne, working := [0], inService := false }
    let s := (withGroup x).setLine 0 { present with lastGood := { present.lastGood with echoSelect := 2#2 } }
    (x.working = [0] ∧ (s.line 0).presence = .present ∧ (s.line 3).rawFail = false ∧ x.crossed = crossedCond s.cabling x) ∧
    ((after (.groupServiceIn .a 0#8) s).group 0).map (·.list) = some [⟨.restoreWait, 1, .automatic, none⟩] ∧
    status (.groupServiceIn .a 1#8) .a s = some .notConfigured ∧ status (.groupServiceOut .a 8#8) .a s = some .outOfRange ∧
    ((after (.groupServiceOut .b 0#8) (withGroup selecting)).group 0).map (fun y => (y.list, y.selected, y.inService))
      = some ([], 0, false) ∧
    (∀ l : LineIx, selecting.member l = true → l = 0 ∨ l = 1 ∨ l = 3) ∧ (selecting.prot :: selecting.working).Nodup := by decide +kernel

/-- R49: a 1:N group that enters service with channel 2 on the protection line and the protection card bridged to it. -/
theorem witness_group_adopts :
    let x := { grp with inService := false }
    let s := ((withGroup x).setLine 1 { present with lastGood := { present.lastGood with echoSelect := 2#2 } }).setLine 3
      { present with lastGood := { present.lastGood with echoBridge := BitVec.ofNat 4 (BridgeCmd.code (.channel 1)) } }
    x.working[(1 : ChanIx).val]? = some 1 ∧ (s.line 1).presence = .present ∧ (s.line 3).presence = .present ∧
    (s.line 3).lastGood.echoBridge.toNat = BridgeCmd.code (.channel 1) ∧ (s.line 3).rawFail = false ∧ x.crossed = false ∧
    crossedCond s.cabling x = false ∧ (∀ l : LineIx, (s.port l).move = none) ∧
    ((after (.groupServiceIn .a 0#8) s).group 0).map (fun y => (y.list, y.restoreWait))
      = some ([⟨.restoreWait, 2, .automatic, none⟩], some 0) ∧
    ((after (.groupServiceIn .a 0#8) (s.setGroup 0 (some { x with revertive := false }))).group 0).map (fun y => (y.list, y.restoreWait))
      = some ([⟨.holdSwitched, 2, .automatic, none⟩], none) := by decide +kernel

theorem witness_cabling_followed :
    let s := withGroup grp
    let t := after (.moveOpenedNotice 3) s
    let swapped := (s.setPort 0 { s.port 0 with state := .swapped 3 }).setPort 3 { s.port 3 with state := .swapped 0 }
    let u := after (.crossedConditionChange 0) swapped
    s.prot.groupOf 3 = some 0 ∧ s.prot.groupOf 5 = none ∧ (t.group 0).map (·.list) = some [⟨.lockout, 0, .cabling, some 3⟩] ∧
    ((after (.moveOpenedNotice 1) s).group 0).map (·.list) = some [⟨.force, 2, .cabling, some 1⟩] ∧
    ((after (.moveClosedNotice 3) t).group 0).map (·.list) = some [] ∧ crossedCond swapped.cabling grp = true ∧
    (u.group 0).map (fun x => (x.crossed, x.list.map (·.cls))) = some (true, [.protFail]) := by decide +kernel

/-- R60, R63: a channel's condition begins, changes from SIGNAL_FAIL to SIGNAL_DEGRADE and back, and ends, where its entry won with
the channel selected and where it did not. -/
theorem witness_summary :
    let s := (withGroup grp).setLine 1 { present with raw := { PerCond.all false with lol := true } }
    let p := (withGroup grp).setLine 3 { present with raw := { PerCond.all false with lfa := true } }
    let t := after (.lineSummaryChange 1) s
    let e (c : ReqClass) : ReqEntry := ⟨c, 2, .automatic, none⟩
    let x (c : ChanCond) (k : ReqClass) (sel : Nat) : Group :=
      { grp with list := [e k], chans := grp.chans.set 1 ⟨c, none⟩, selected := sel, bridged := sel }
    let line (lol sd : Bool) : Line := { present with raw := { PerCond.all false with lol := lol, sd := sd } }
    let list (g : Group) (ln : Line) : Option (List ReqEntry) :=
      ((after (.lineSummaryChange 1) ((withGroup g).setLine 1 ln)).group 0).map (·.list)
    s.prot.role 1 = .working 0 1 ∧ (s.line 1).rawFail = true ∧ (t.group 0).map (fun x => x.chans.get 1) = some ⟨.sf, some 0⟩ ∧
    ((after (.lineSummaryChange 3) p).group 0).map (fun x => x.list.map (·.cls)) = some [.protFail] ∧
    s.prot.role 9 = .none ∧ after (.lineSummaryChange 9) s = s ∧
    list (x .sf .signalFail 2) (line false true) = some [e .signalDegrade] ∧
    list (x .sd .signalDegrade 2) (line true false) = some [e .signalFail] ∧
    (withGroup (x .sf .signalFail 2)).winningEntry (x .sf .signalFail 2) = some (e .signalFail) ∧
    ReqEntry.signalOf 1 (e .signalFail) = true ∧ list (x .sf .signalFail 2) (line false false) = some [e .restoreWait] ∧
    list { x .sf .signalFail 2 with revertive := false } (line false false) = some [e .holdSwitched] ∧
    list (x .sf .signalFail 0) (line false false) = some [] := by decide +kernel

theorem witness_waits :
    let on := { grp with chans := grp.chans.set 0 ⟨.sd, some 0⟩, restoreWait := some 300, trialWait := some 200, agreeWait := some 200,
                         list := [⟨.trial, 1, .port .a, none⟩] }
    let s := withGroup on
    ((after (.holdOffExpiry 0 0) s).group 0).map (fun x => x.list.map (·.cls)) = some [.signalDegrade] ∧
    ((after (.restoreWaitExpiry 0) s).group 0).map (·.restoreWait) = some none ∧
    ((after (.trialWaitExpiry 0) s).group 0).map (·.list) = some [] ∧ on.disregarded = false ∧
    Instr.agreementWaitExpiry 0 ∉ s.fired ∧
    ((after (.agreementWaitExpiry 0) s).group 0).map (·.protoFault) = some true ∧
    { selecting with own := [(.force, 1)] }.disregarded = true := by decide +kernel

/-! ## Witnesses and tests: reference and clock -/

theorem witness_candidate_set :
    let x : CandidateSetupParams := ⟨3#8, 1#8, 3#8, 4#8, 0#8, 0#8, 15#8⟩
    let st (y : CandidateSetupParams) : Option Status := status (.candidateSetup .a y) .a opened
    [x, { x with cand := 6#8, priority := 8#8, quality := 14#8 }, { x with cand := 0#8 }, { x with cand := 7#8 }, { x with cand := 2#8 },
      { x with lineOrGroup := 16#8 }, { x with enabled := 2#8 }, { x with cand := 1#8, sourceKind := 2#8 }].map st
      = [some .okClamped, some .ok, some .outOfRange, some .outOfRange, some .outOfRange, some .outOfRange, some .outOfRange, some .outOfRange] ∧
    ((after (.candidateSetup .a x) opened).cand 2).resolved = some 4 ∧
    ((after (.candidateSetup .a x) opened).cand 2).state = .disqualified ∧
    status (.candidateLockout .a 0#8 1#8) .a locked = some .outOfRange ∧ (locked.cand 0).lockout = false ∧
    ((after (.candidateLockout .a 1#8 1#8) locked).cand 0).eligible = false ∧
    after (.candidateLockout .a 1#8 0#8) locked = locked.answer .a ⟨.ok, []⟩ := by decide +kernel

/-- R95, R98: the worked offsets of Section 5 (the clamp at 8,192 counts for g = 1), and the limits 1,500 and 1,600. -/
theorem witness_gates :
    let gate (d : Int) : Candidate := (after (.gateComplete 0 (BitVec.ofInt 32 (81920000 - d))) locked).cand 0
    (locked.cand 0).gate = true ∧ (locked.cand 0).window = true ∧ (locked.cand 0).hasInput = true ∧
    (gate 11).lastQ = 44 ∧ (gate (-8192)).lastQ = -32767 ∧ (gate 8191).lastQ = 32764 ∧
    (gate 375).state = .qualified ∧ (gate 376).goodRun = 0 ∧ (gate 376).state = .qualified ∧ (gate 400).reasons.offset = false ∧
    (gate 401).state = .disqualified ∧ (gate 401).reasons.offset = true ∧
    ((after (.activityWindowExpiry 0) locked).cand 0).reasons.activity = true := by decide +kernel

theorem witness_candidate_offers :
    let c := { Candidate.initial (.group 0 0) 3 4 with enabled := true, resolved := some 0, state := .qualified }
    let s := ((withGroup selecting).setCand 2 c).setLine 0 { present with raw := { PerCond.all false with ffi := true } }
    let out := (withGroup { selecting with inService := false }).setCand 2 c
    ((after (.lineDefectChange 0) s).cand 2).reasons.lineDefect = true ∧ ((after (.lineDefectChange 1) s).cand 2) = c ∧
    ((after (.cablingStateOffer 0) s).cand 2).state = .disqualified ∧ ((after (.selectionOffer 0) s).cand 2).resolved = some 3 ∧
    ((after (.selectionOffer 0) out).cand 2).resolved = none ∧ ((after (.selectionOffer 0) out).cand 2).reasons.source = true := by
  decide +kernel

/-- R112, R113: the worked table of Section 6 for k = 3, the fourth good gate, and the step of H rounded down. -/
theorem witness_steering :
    let dS (q : Int) : Int := (after (.qOffer 0 q) locked).clock.steer
    let near := { locked with clock := { locked.clock with loop := .acquiring, lockRun := 3 } }
    [984, 11, 12, -12, 4, -3].map dS = [123, 1, 2, -2, 1, 0] ∧ locked.clock.selected = some 0 ∧
    (after (.qOffer 0 20) near).clock.loop = .locked ∧ (after (.qOffer 0 21) near).clock.loop = .acquiring ∧
    (after (.qOffer 0 100) locked).clock.loop = .locked ∧ (after (.qOffer 0 101) locked).clock.loop = .acquiring ∧
    (after (.qOffer 0 0) locked).clock.average = 53168 - 3323 ∧ after (.qOffer 1 5) locked = locked := by decide +kernel

theorem witness_selection :
    let two := locked.setCand 1 { qualified with priority := 2, defQual := 1, effQual := 1 }
    let slot (x : ClockReq) : State := { two with clock := { two.clock with slot := x } }
    let rev := { two with clock := { two.clock with settings := { two.clock.settings with revertive := true } } }
    let lost := locked.setCand 0 { qualified with eligible := false }
    [slot .none, slot .forceHoldover, slot (.forceRef 1), slot (.forceRef 2), rev, lost].map (fun s => (after (.candidateOffer 0) s).clock.selected)
      = [some 0, none, some 1, none, some 1, none] ∧
    (after (.candidateOffer 0) lost).clock.loop = .holdover ∧ (after (.candidateOffer 0) lost).clock.steer = 208 ∧
    (after (.candidateOffer 0) lost).clock.ownQual = 3 := by decide +kernel

theorem witness_clock_commands :
    let x : ClockSetupParams := ⟨4#8, 1500#16, 1499#16, 16#8, 8#8, 1#8, 20#16, 19#16, 0x8000#16, 1#8, 15#8, 15#8, 1#8, 73#8⟩
    let t := after (.clockSetup .a x) opened
    status (.clockSetup .a x) .a opened = some .okClamped ∧ status (.clockSetup .a { x with pullSign := 2#8 }) .a opened = some .outOfRange ∧
    (t.ref.gateExp, t.ref.disqualifyLimit, t.ref.qualifyCount, t.clock.settings.gainShift, t.clock.settings.averageShift) = (3, 1500, 15, 7, 2) ∧
    (t.clock.settings.unlockThreshold, t.clock.settings.freeRun, t.clock.settings.shelfQuality, t.clock.settings.holdoverQuality,
      t.clock.settings.ageHours) = (20, -32767, 14, 14, 72) ∧ t.clock.steer = -32767 ∧
    [(0#8, 9#8), (1#8, 6#8), (2#8, 0#8), (1#8, 0#8), (3#8, 1#8)].map (fun y => status (.clockRequest .b y.1 y.2) .b opened)
      = [some .ok, some .ok, some .ok, some .outOfRange, some .outOfRange] := by decide +kernel

theorem witness_clock_events :
    let s := { locked with clock := { locked.clock with loop := .holdover, selected := none, steer := 209 } }
    let t := after .holdoverAgeLimit s
    let n := { s with clock := { s.clock with settings := { s.clock.settings with positive := false } } }
    (t.clock.aged, t.clock.ownQual) = (true, 4) ∧ (after .steerFrameStart s).clock.highCount = 32977 ∧
    (after .steerFrameStart n).clock.highCount = 32559 ∧ (after (.resolvedLineOffer 0) locked).clock.feeding = none := by decide +kernel

/-! ## Witnesses and tests: alarms and office outputs -/

/-- R125 to R128: a second raise of an ACTIVE alarm changes nothing, a CLEARED one is reused, a transient one counts on. -/
theorem witness_alarm_raised :
    let a : Alarm := .line .lineLol 0
    let cleared := { alarmed with alarms := { alarmed.alarms with
      entries := [{ lolEntry with active := false, clearedAt := some 9#32, count := 255 }] } }
    let moved := after (.alarmConditionRaise (.line .moveExpired 0)) opened
    (alarmed.alarms.entries.map (·.alarm)).Nodup ∧ after (.alarmConditionRaise a) alarmed = alarmed ∧
    (after (.alarmConditionRaise a) cleared).alarms.entries.map (fun e => (e.active, e.count, e.clearedAt)) = [(true, 255, none)] ∧
    (after (.alarmConditionRaise (.line .moveExpired 0)) moved).alarms.entries.map (·.count) = [2] := by decide +kernel

/-- R133, R134: 48 entries with one CLEARED, and 48 ACTIVE ones. -/
theorem witness_table_full :
    let all : List Alarm := (List.finRange 16).flatMap fun l => [.line .lineLol l, .line .lineLfa l, .line .lineFfi l]
    let entry (a : Alarm) : AlarmEntry := ⟨a, .minor, true, true, 0#32, none, 1, some true⟩
    let s (old : Bool) : State := { opened with alarms := { opened.alarms with
      entries := all.map fun a => if old && a == .line .lineLfa 7 then { entry a with active := false, clearedAt := some 3#32 } else entry a } }
    let r : Instr := .alarmConditionRaise (.line .lineSd 1)
    (s true).alarms.entries.length = 48 ∧ ((s true).alarms.entries.map (·.alarm)).Nodup ∧
    (after r (s true)).alarms.entries.length = 48 ∧ ((after r (s true)).alarms.entries.getLast?).map (·.alarm) = some (.line .lineSd 1) ∧
    (after r (s true)).alarms.entries.all (fun e => e.alarm != .line .lineLfa 7) = true ∧
    (∀ e ∈ (s false).alarms.entries, e.active = true) ∧ (after r (s false)).alarms.entries = (s false).alarms.entries ∧
    (after r (s false)).alarms.fixed.state = .active := by decide +kernel

theorem witness_alarm_cleared :
    let a : Alarm := .line .lineLol 0
    let acked := after (.alarmAcknowledgeIndex .c 1#8) alarmed
    (after (.alarmConditionClear a) alarmed).alarms.entries.map (·.active) = [false] ∧ acked.alarms.entries.map (·.acked) = [true] ∧
    (after (.alarmConditionClear a) acked).alarms.entries = [] ∧
    [0#8, 1#8, 2#8].map (fun n => status (.alarmAcknowledgeIndex .a n) .a alarmed) = [some .outOfRange, some .ok, some .outOfRange] ∧
    [0#8, 1#8, 4#8, 5#8].map (fun n => status (.alarmAcknowledgeSeverity .a n) .a alarmed)
      = [some .outOfRange, some .ok, some .ok, some .outOfRange] ∧
    (after (.alarmAcknowledgeAll .a) (after (.alarmConditionClear a) alarmed)).alarms.entries = [] := by decide +kernel

/-- R123, R132: types 0, 1, 15, 16, 24 and 25; a rise undoes the acknowledgement. -/
theorem witness_severity :
    [(0#8, 1#8, 1#8), (1#8, 1#8, 4#8), (15#8, 4#8, 0#8), (16#8, 4#8, 0#8), (24#8, 1#8, 9#8), (25#8, 1#8, 1#8)].map
      (fun x => status (.severitySetup .a x.1 x.2.1 x.2.2) .a alarmed)
      = [some .outOfRange, some .ok, some .outOfRange, some .ok, some .ok, some .outOfRange] ∧
    (after (.severitySetup .a 1#8 2#8 4#8) alarmed).alarms.entries.map (·.severity) = [.major] ∧
    (after (.severitySetup .a 24#8 1#8 9#8) alarmed).alarms.fixed.severity = .critical ∧
    ((after (.coverageChange 0 true) alarmed).alarms.entries.map (fun e => (e.severity, e.sa))) = [(.minor, some false)] := by decide +kernel

theorem witness_cadence_loaded :
    let i (first : Byte) (n : Nat) : Option Status := status (.cadenceLoadStepForm .a first (List.replicate n ⟨1#8, 64#8, 0#8⟩)) .a opened
    let x : DescriptorParams := ⟨4#8, 31#8, 33#8, 1#8, 2#8, 32#8⟩
    [i 0#8 16, i 16#8 16, i 17#8 16, i 0#8 17, i 0#8 0, i 31#8 1, i 32#8 1]
      = [some .ok, some .ok, some .outOfRange, some .outOfRange, some .outOfRange, some .ok, some .outOfRange] ∧
    status (.cadenceLoadStepForm .a 0#8 [⟨2#8, 1#8, 0#8⟩]) .a opened = some .outOfRange ∧
    status (.cadenceLoadStepForm .a 0#8 [⟨1#8, 65#8, 0#8⟩]) .a opened = some .okClamped ∧
    status (.cadenceLoadDescriptorForm .a x) .a opened = some .okClamped ∧
    ((after (.cadenceLoadDescriptorForm .a x) opened).office.descs.get 4) = ⟨31, 32, false, 3, 31⟩ ∧
    status (.cadenceLoadDescriptorForm .a { x with desc := 5#8 }) .a opened = some .outOfRange := by decide +kernel

/-- R139 to R142: the relays and the pattern follow, a cutoff silences, a raise ends it. -/
theorem witness_office :
    let s := after (.officeOffer [⟨.raise, some (.line .lineLol 0)⟩]) alarmed
    let t := after .pushbuttonPress s
    let u := after (.officeOffer [⟨.raise, some (.line .lineLol 0)⟩]) t
    (s.office.relayCrit, s.office.required, s.office.playing) = (true, some .critical, some .critical) ∧ s.office.buttonHigh = true ∧
    (t.office.aco, t.office.required, t.office.playing, t.office.buttonHigh) = (some .critical, none, some .ackChirp, false) ∧
    (u.office.aco, u.office.required) = (none, some .critical) ∧ (after .pushbuttonRelease t).office.buttonHigh = true ∧
    status (.alarmCutoff .c) .c s = some .ok := by decide +kernel

/-- R144 to R146: a chirp on an idle engine, the end of its only step, a switch to a required pattern, a marked restart. -/
theorem witness_cadence :
    let s := after (.chirpRequest .ack) opened
    let due := { s with office := { s.office with required := some .major } }
    let again := { s with office := { s.office with restart := true } }
    opened.office.playing = none ∧ 1 ≤ (opened.office.descs.get DescIx.ackChirp.ix).length ∧
    s.office.active = some ⟨8, ⟨true, 3, true⟩, 15, 3⟩ ∧ s.office.buffer = none ∧
    (after .cadenceStepEnd s).office.playing = none ∧ (after .cadenceStepEnd due).office.playing = some .major ∧
    (after .cadenceStepEnd again).office.active = s.office.active ∧
    (after .cadenceStepEnd (after (.chirpRequest .move) opened)).office.active = some ⟨10, ⟨true, 2, false⟩, 23, 3⟩ ∧
    after (.chirpRequest .move) s = s := by decide +kernel

end Sys2Proof.Tests
end

