-- ==== Sys2Proof/Proofs/WinnerChosen.lean ====
section
/-!
PROOFS. Proofs/WinnerChosen.lean: R52, the winning request. An entry that joins the end of a list, as the youngest, is compared with
the winner of the older entries alone; so the facts about the winner follow by induction along the list, from its oldest entry on.
They use core Lean only, as the model's files do.
-/
namespace Sys2Proof.Machine

variable {degraded : Bool} {es : List ReqEntry} {e w : ReqEntry}

theorem ReqEntry.held_iff : e.held degraded = true ↔ degraded = true ∧ e.cls = .signalDegrade := by
  simp [ReqEntry.held]

/-- Induction along a list that grows at its end, as a request list does. -/
theorem list_end_induction {α : Type} {motive : List α → Prop} (nil : motive [])
    (append : ∀ xs x, motive xs → motive (xs ++ [x])) (xs : List α) : motive xs := by
  have hrev (ys : List α) : motive ys.reverse := by
    induction ys with
    | nil => exact nil
    | cons y ys ih => rw [List.reverse_cons]; exact append ys.reverse y ih
  rw [← List.reverse_reverse xs]
  exact hrev xs.reverse

/-! ### What a youngest entry does to the choice -/

theorem pickWinner_nil : pickWinner degraded [] = none := rfl

theorem pickWinner_append_held (he : e.held degraded = true) : pickWinner degraded (es ++ [e]) = pickWinner degraded es := by
  simp [pickWinner, he]

theorem pickWinner_append_of_none (he : ¬ e.held degraded = true) (hes : pickWinner degraded es = none) :
    pickWinner degraded (es ++ [e]) = some e := by
  unfold pickWinner at hes ⊢
  simp [hes, he]

/-- A younger entry takes over from the winner only with a class that is strictly higher. -/
theorem pickWinner_append_of_some (he : ¬ e.held degraded = true) (hes : pickWinner degraded es = some w) :
    pickWinner degraded (es ++ [e]) = some (if ReqClass.code w.cls < ReqClass.code e.cls then e else w) := by
  unfold pickWinner at hes ⊢
  simp [hes, he, apply_ite some]

/-! ### The entry that R52 names -/

/-- R52: `w` is the oldest of the entries of highest class among those of the list that are not held. -/
def OldestOfHighest (degraded : Bool) (es : List ReqEntry) (w : ReqEntry) : Prop :=
  ∃ older younger : List ReqEntry, es = older ++ w :: younger ∧ ¬ w.held degraded = true ∧
    (∀ e ∈ older, ¬ e.held degraded = true → ReqClass.code e.cls < ReqClass.code w.cls) ∧
    (∀ e ∈ younger, ¬ e.held degraded = true → ReqClass.code e.cls ≤ ReqClass.code w.cls)

theorem OldestOfHighest.class_le (h : OldestOfHighest degraded es w) (hmem : e ∈ es) (he : ¬ e.held degraded = true) :
    ReqClass.code e.cls ≤ ReqClass.code w.cls := by
  obtain ⟨older, younger, rfl, -, hold, hyoung⟩ := h
  rcases List.mem_append.mp hmem with ho | hy
  · exact Nat.le_of_lt (hold e ho he)
  · rcases List.mem_cons.mp hy with rfl | hy
    · exact Nat.le_refl _
    · exact hyoung e hy he

/-- A younger entry that is held, or whose class is not higher, leaves `w` the one. -/
theorem OldestOfHighest.append (h : OldestOfHighest degraded es w)
    (hle : ¬ e.held degraded = true → ReqClass.code e.cls ≤ ReqClass.code w.cls) : OldestOfHighest degraded (es ++ [e]) w := by
  obtain ⟨older, younger, rfl, hw, hold, hyoung⟩ := h
  refine ⟨older, younger ++ [e], by simp, hw, hold, fun x hx hxh => ?_⟩
  rcases List.mem_append.mp hx with hy | hnew
  · exact hyoung x hy hxh
  · obtain rfl := List.mem_singleton.mp hnew
    exact hle hxh

/-- The youngest entry is the one when its class is higher than that of each entry before it that takes part. -/
theorem oldestOfHighest_youngest (he : ¬ e.held degraded = true)
    (hlt : ∀ x ∈ es, ¬ x.held degraded = true → ReqClass.code x.cls < ReqClass.code e.cls) :
    OldestOfHighest degraded (es ++ [e]) e :=
  ⟨es, [], rfl, he, hlt, by simp⟩

/-! ### The choice is that entry -/

/-- R52: no entry is chosen exactly when none takes part. -/
theorem pickWinner_eq_none_iff : pickWinner degraded es = none ↔ ∀ e ∈ es, e.held degraded = true := by
  induction es using list_end_induction with
  | nil => simp [pickWinner_nil]
  | append es e ih =>
    by_cases he : e.held degraded = true
    · rw [pickWinner_append_held he, ih, List.forall_mem_append]
      simp [he]
    · have hsome : pickWinner degraded (es ++ [e]) ≠ none := by
        cases hes : pickWinner degraded es with
        | none => simp [pickWinner_append_of_none he hes]
        | some w => simp [pickWinner_append_of_some he hes]
      exact iff_of_false hsome fun hall => he (hall e (by simp))

/-- R52: the entry chosen is the oldest of those of highest class that take part. -/
theorem pickWinner_oldestOfHighest (h : pickWinner degraded es = some w) : OldestOfHighest degraded es w := by
  induction es using list_end_induction generalizing w with
  | nil => simp [pickWinner_nil] at h
  | append es e ih =>
    by_cases he : e.held degraded = true
    · rw [pickWinner_append_held he] at h
      exact (ih h).append (absurd he)
    · cases hes : pickWinner degraded es with
      | none =>
        obtain rfl : e = w := by simpa [pickWinner_append_of_none he hes] using h
        exact oldestOfHighest_youngest he fun x hx hxh => absurd (pickWinner_eq_none_iff.mp hes x hx) hxh
      | some v =>
        rw [pickWinner_append_of_some he hes, Option.some_inj] at h
        split at h
        case isTrue hlt =>
          subst h
          exact oldestOfHighest_youngest he fun x hx hxh => Nat.lt_of_le_of_lt ((ih hes).class_le hx hxh) hlt
        case isFalse hle =>
          subst h
          exact (ih hes).append fun _ => Nat.le_of_not_lt hle

end Sys2Proof.Machine

namespace Sys2Proof.Proofs

open Sys2Proof.Machine

/-- Settles O39, by induction along the request list from its oldest entry (`pickWinner_oldestOfHighest`,
`pickWinner_eq_none_iff`). -/
theorem winnerChosen : Obligations.WinnerChosen := by
  intro s x held
  have held_iff (e : ReqEntry) : e.held (s.line x.prot).rawDegrade = true ↔ held e := ReqEntry.held_iff
  have none_iff : s.winningEntry x = none ↔ ∀ e ∈ x.list, e.held (s.line x.prot).rawDegrade = true := pickWinner_eq_none_iff
  refine ⟨fun w hw => ?_, ?_, fun hnone => by rw [hnone]; rfl⟩
  · simpa only [OldestOfHighest, held_iff] using pickWinner_oldestOfHighest hw
  · simpa only [held_iff] using none_iff.symm

end Sys2Proof.Proofs
end

