-- ==== Sys2Proof/Proofs/WordAccepted.lean ====
section
/-!
PROOFS. Proofs/WordAccepted.lean: R70 to R73, the far-end tracker. What those rules read and write of a group is collected as its
`Signalling`. Everything that a record sets in train, from the line's hand-overs to a resolution and a TRIAL's end, leaves the
signalling of every group (`SameSignalling`); only the received word and the reset of the tracker change it, and what they do is a
function of the signalling alone (`Signalling.afterRecord`). The proofs use core Lean only, as the model's files do.
-/
namespace Sys2Proof.Machine

variable {s t u : State} {ps : List Part} {g : GroupIx} {x y : Group} {l : LineIx}

/-! ### The signalling of a group -/

/-- What R70 to R73 read and write of a group's record, and the lines that give a line its role in the group. -/
structure Signalling where
  arch     : Architecture
  bidir    : Bool
  prot     : LineIx
  working  : List LineIx
  tracker  : Tracker
  mismatch : Bool

def Group.signalling (x : Group) : Signalling := ⟨x.arch, x.bidir, x.prot, x.working, x.tracker, x.mismatch⟩

def State.signalling (s : State) (g : GroupIx) : Option Signalling := (s.group g).map Group.signalling

theorem State.signalling_of_group (h : s.group g = some x) : s.signalling g = some x.signalling := by
  rw [State.signalling, h, Option.map_some]

theorem State.group_of_signalling {c : Signalling} (h : s.signalling g = some c) : ∃ y, s.group g = some y ∧ y.signalling = c :=
  Option.map_eq_some_iff.mp h

theorem State.signalling_setGroup_same (s : State) (g : GroupIx) (x : Group) :
    (s.setGroup g (some x)).signalling g = some x.signalling :=
  State.signalling_of_group (State.group_setGroup_same s g _)

theorem Group.roleOf_of_signalling (h : y.signalling = x.signalling) : y.roleOf g l = x.roleOf g l := by
  have hprot : y.prot = x.prot := congrArg Signalling.prot h
  have hworking : y.working = x.working := congrArg Signalling.working h
  simp only [Group.roleOf, Group.chanOf, Group.lineOf, hprot, hworking]

/-! ### What a change of a group's record leaves of its signalling -/

@[simp] theorem Group.drop_signalling (p : ReqEntry → Bool) (x : Group) : (x.drop p).signalling = x.signalling := rfl
@[simp] theorem Group.enter_signalling (e : ReqEntry) (x : Group) : (x.enter e).signalling = x.signalling := rfl
@[simp] theorem Group.formed_signalling (w : Winner) (x : Group) : (x.formed w).signalling = x.signalling := rfl

@[simp] theorem Group.waitFormed_signalling (old : EffRequest) (x : Group) : (x.waitFormed old).signalling = x.signalling := by
  unfold Group.waitFormed; split
  · split <;> rfl
  · rfl

@[simp] theorem Group.yield_signalling (w : Winner) (x : Group) : (x.yield w).signalling = x.signalling := by
  unfold Group.yield; split <;> split <;> rfl

@[simp] theorem Group.withProtFail_signalling (cause : Bool) (x : Group) : (x.withProtFail cause).signalling = x.signalling := by
  simp only [Group.withProtFail]; split
  · rfl
  · split <;> rfl

/-! ### States in which every group has the same signalling -/

/-- Every group has the same signalling in two states. -/
def SameSignalling (s t : State) : Prop := ∀ g, t.signalling g = s.signalling g

theorem SameSignalling.refl (s : State) : SameSignalling s s := fun _ => rfl

theorem SameSignalling.trans (h : SameSignalling s t) (k : SameSignalling t u) : SameSignalling s u :=
  fun g => (k g).trans (h g)

theorem SameSignalling.ite {c : Prop} [Decidable c] (h : SameSignalling s t) (k : SameSignalling s u) :
    SameSignalling s (if c then t else u) := by
  split
  · exact h
  · exact k

theorem SameSignalling.of_groups (h : t.prot.groups = s.prot.groups) : SameSignalling s t := by
  intro g; rw [State.signalling, State.group, h]; rfl

theorem SameSignalling.of_prot (h : t.prot = s.prot) : SameSignalling s t := .of_groups (congrArg Protection.groups h)

theorem SameSignalling.of_keeps (h : Keeps ps s t) (hprot : Part.prot ∈ ps) : SameSignalling s t := .of_prot (h .prot hprot)

theorem SameSignalling.setGroup (h : SameSignalling s t) {c : Signalling} (hs : s.signalling g = some c)
    (hx : x.signalling = c) : SameSignalling s (t.setGroup g (some x)) := by
  intro k
  by_cases hk : k = g
  · subst hk; rw [hs, State.signalling_setGroup_same, hx]
  · rw [← h k]; simp [State.signalling, State.group_setGroup, hk]

theorem State.modGroup_sameSignalling (s : State) (g : GroupIx) {f : Group → Group} (hf : ∀ x, (f x).signalling = x.signalling) :
    SameSignalling s (s.modGroup g f) := by
  unfold State.modGroup; split
  · next x hx => exact (SameSignalling.refl s).setGroup (State.signalling_of_group hx) (hf x)
  · exact .refl s

/-- 3.1: a line's role is formed from the groups' signalling. -/
theorem SameSignalling.role (h : SameSignalling s t) (l : LineIx) : t.prot.role l = s.prot.role l := by
  unfold Protection.role
  congr 1
  funext r g
  cases r with
  | working | protection => rfl
  | none =>
    cases hs : s.group g with
    | none =>
      have ht : t.group g = none := by simpa [State.signalling, hs] using h g
      rw [State.group] at hs ht
      simp only [hs, ht]
    | some x =>
      obtain ⟨y, hy, hyx⟩ := State.group_of_signalling ((h g).trans (State.signalling_of_group hs))
      rw [State.group] at hs hy
      simp only [hs, hy]
      exact Group.roleOf_of_signalling hyx

/-! ### What the Protection Controller leaves of the signalling -/

theorem State.handAlarm_sameSignalling (a : Alarm) (active : Bool) (s : State) : SameSignalling s (s.handAlarm a active) :=
  .of_keeps (State.handAlarm_keeps a active s) (by decide)

theorem State.formLineCoverage_sameSignalling (l : LineIx) (s : State) : SameSignalling s (s.formLineCoverage l) := by
  have covered (cs : Vector Bool 16) : SameSignalling s { s with prot := { s.prot with covered := cs } } := .of_groups rfl
  exact .ite (.refl s) ((covered _).trans (.of_keeps (State.coverageChange_keeps l (s.prot.coverage l) _) (by decide)))

theorem State.formCoverage_sameSignalling (s : State) : SameSignalling s s.formCoverage :=
  forEach_induct _ _ (fun l _ t ht => ht.trans (State.formLineCoverage_sameSignalling l t)) s (.refl s)

theorem State.issueSwitched_sameSignalling (g : GroupIx) (old new : Group) (s : State) :
    SameSignalling s (s.issueSwitched g old new) :=
  .ite (.refl s) (.of_prot rfl)

theorem State.handFault_sameSignalling (g : GroupIx) (old new : Group) (s : State) : SameSignalling s (s.handFault g old new) :=
  .ite (.refl s) (State.handAlarm_sameSignalling _ _ s)

theorem State.commandMembers_sameSignalling (x : Group) (cmd : LineIx → LineCmd) (s : State) :
    SameSignalling s (s.commandMembers x cmd) :=
  .of_groups (by simp only [State.commandMembers])

/-- R76: a forming of the effective request puts back records with the signalling that the group had. -/
theorem State.applyForming_sameSignalling (w : Winner) (hx : s.signalling g = some x.signalling) :
    SameSignalling s (s.applyForming g x w) := by
  have commanded (y z : Group) (hy : y.signalling = x.signalling) (hz : z.signalling = x.signalling) : SameSignalling s
      ((State.handFault g y z (State.setGroup (State.issueSwitched g x y (s.setGroup g (some y))) g (some z))).commandMembers z
        z.cmdFor).formCoverage :=
    ((((((SameSignalling.refl s).setGroup hx hy).trans (State.issueSwitched_sameSignalling g x y _)).setGroup hx hz).trans
      (State.handFault_sameSignalling g y z _)).trans (State.commandMembers_sameSignalling z _ _)).trans
      (State.formCoverage_sameSignalling _)
  have formed := commanded (x.formed w) ((x.formed w).waitFormed x.eff) rfl (Group.waitFormed_signalling _ _)
  exact .ite formed (formed.trans (.of_keeps (State.offerGroup_keeps _ g) (by decide)))

theorem State.formEffective_sameSignalling (g : GroupIx) (s : State) : SameSignalling s (s.formEffective g) := by
  unfold State.formEffective; split
  · next x hx => exact .ite (State.applyForming_sameSignalling _ (State.signalling_of_group hx)) (.refl s)
  · exact .refl s

theorem State.notifyYield_sameSignalling (g : GroupIx) (x : Group) (w : Winner) (s : State) :
    SameSignalling s (s.notifyYield g x w) := by
  unfold State.notifyYield; split
  · unfold State.notifyPreempted; split
    · exact .of_prot rfl
    · exact .refl s
  · exact .refl s

theorem State.issueWinner_sameSignalling (g : GroupIx) (x : Group) (w : Winner) (s : State) :
    SameSignalling s (s.issueWinner g x w) :=
  .ite (.refl s) (.of_prot rfl)

theorem State.resolve_sameSignalling (g : GroupIx) (s : State) : SameSignalling s (s.resolve g) := by
  unfold State.resolve; split
  · next x hx =>
    refine .ite ?_ (.refl s)
    have hs := State.signalling_of_group hx
    have yielded (w v : Winner) : { x.yield w with lastWinner := v }.signalling = x.signalling := Group.yield_signalling w x
    have told (w v : Winner) : SameSignalling s
        (State.issueWinner g x w (State.notifyYield g x w (s.setGroup g (some { x.yield w with lastWinner := v })))) :=
      (((SameSignalling.refl s).setGroup hs (yielded w v)).trans (State.notifyYield_sameSignalling g x w _)).trans
        (State.issueWinner_sameSignalling g x w _)
    exact (told _ _).trans (State.applyForming_sameSignalling _ ((told _ _ g).trans (hs.trans (congrArg some (yielded _ _).symm))))
  · exact .refl s

theorem State.changeList_sameSignalling (g : GroupIx) {f : Group → Group} (hf : ∀ x, (f x).signalling = x.signalling) (s : State) :
    SameSignalling s (s.changeList g f) :=
  (State.modGroup_sameSignalling s g hf).trans (State.resolve_sameSignalling g _)

theorem State.endTrial_sameSignalling (g : GroupIx) (e : ReqEntry) (o : TrialDetail) (s : State) :
    SameSignalling s (s.endTrial g e o) := by
  have stopped : SameSignalling s (s.modGroup g fun x => { x with trialWait := none }) :=
    State.modGroup_sameSignalling s g fun _ => rfl
  have issued (u : State) (b : EventBody) : SameSignalling u (u.issue b) := .of_prot rfl
  unfold State.endTrial
  exact (stopped.trans (issued _ _)).trans (State.changeList_sameSignalling g (Group.drop_signalling _) _)

theorem State.testTrial_sameSignalling (g : GroupIx) (s : State) : SameSignalling s (s.testTrial g) := by
  unfold State.testTrial; split
  · split
    · exact .ite (State.endTrial_sameSignalling g _ _ s) (.refl s)
    · exact .refl s
  · exact .refl s

theorem State.setCondition_sameSignalling (k : ChanIx) (c : ChanCond) (hx : s.group g = some x) :
    SameSignalling s (s.setCondition g k c x) := by
  have put (hold : Option Nat) : SameSignalling s (s.setGroup g (some { x with chans := x.chans.set k.val ⟨c, hold⟩ })) :=
    (SameSignalling.refl s).setGroup (State.signalling_of_group hx) rfl
  refine .ite (.refl s) (.ite (.ite ?_ (put none)) (.ite (put _) (.ite ?_ (put _))))
  · refine (put none).trans (State.changeList_sameSignalling g (fun y => ?_) _)
    split <;> simp
  · exact (put _).trans (State.changeList_sameSignalling g (fun y => by simp) _)

theorem State.lineSummary_sameSignalling (l : LineIx) (s : State) : SameSignalling s (s.lineSummary l) := by
  unfold State.lineSummary; split
  · exact .refl s
  · split
    · next hx => exact .ite (State.setCondition_sameSignalling _ _ hx) (.refl s)
    · exact .refl s
  · split
    · exact .ite (State.changeList_sameSignalling _ (Group.withProtFail_signalling _) s) (.refl s)
    · exact .refl s

/-! ### What the hand-overs of a record leave of the signalling and of the lines -/

theorem State.changeLine_sameSignalling (l : LineIx) (f : Line → Line) (s : State) : SameSignalling s (s.changeLine l f) := by
  have summary (u : State) (c : Prop) [Decidable c] : SameSignalling u (if c then u else u.lineSummary l) :=
    .ite (.refl u) (State.lineSummary_sameSignalling l u)
  have set : SameSignalling s (s.setLine l (f (s.line l))) := .of_prot rfl
  exact .ite (set.trans (summary _ _)) ((set.trans (summary _ _)).trans (.of_keeps (State.offerDefect_keeps _ l) (by decide)))

theorem State.handSelector_sameSignalling (l : LineIx) (old : Line) (s : State) : SameSignalling s (s.handSelector l old) :=
  .ite (.refl s) (State.handAlarm_sameSignalling _ _ s)

theorem State.handQuality_sameSignalling (l : LineIx) (old : Line) (s : State) : SameSignalling s (s.handQuality l old) :=
  .ite (.refl s) (.of_keeps (State.offerQuality_keeps s l) (by decide))

/-- The hand-overs of a change of a line leave the line as the change made it. -/
theorem State.changeLine_line (l : LineIx) (f : Line → Line) (s : State) : (s.changeLine l f).line l = f (s.line l) := by
  have handed : Keeps [.lines] (s.setLine l (f (s.line l))) (s.changeLine l f) := by
    have summary (u : State) (c : Prop) [Decidable c] : Keeps [.lines] u (if c then u else u.lineSummary l) :=
      .ite (fun _ => .refl _ u) fun _ => (State.lineSummary_keeps u l).mono (by decide)
    exact .ite (fun _ => summary _ _) fun _ => (summary _ _).trans ((State.offerDefect_keeps _ l).mono (by decide))
  rw [State.line, handed .lines List.mem_cons_self]
  exact State.line_setLine_same s l _

theorem State.handSelector_line (l : LineIx) (old : Line) (s : State) : (s.handSelector l old).line l = s.line l := by
  have handed : Keeps [.lines] s (s.handSelector l old) :=
    .ite (fun _ => .refl _ s) fun _ => (State.handAlarm_keeps _ _ s).mono (by decide)
  rw [State.line, handed .lines List.mem_cons_self]; rfl

/-- R6, R7: a good record sets raw LOL and raw LFA, whatever else it does. -/
theorem Line.good_lost (r : InRecord) (ln : Line) : (ln.good r).lost = (r.lol || r.lfa) := by
  unfold Line.good
  obtain ⟨run, fault, hecho⟩ := Line.checkEcho_frame r
    ((if r.cardPresent = false ∧ ln.presence ≠ .absent then (ln.take r).clearBins else ln.take r).addBlockErrors
      r.blockErrors.toNat)
  rw [hecho]
  split <;> rfl

/-! ### What a record does to the signalling -/

/-- R71, R73: the signalling after a counted word. -/
def Signalling.receive (w : Word16) (c : Signalling) : Signalling :=
  let t := c.tracker.count w
  if t.accepts w then
    { c with tracker := { t with accepted := w, received := true }
             mismatch := Pcw.oneToN w != (c.arch == .oneToN) || Pcw.bidir w != c.bidir }
  else { c with tracker := t }

/-- R70 to R73: the signalling after a good record on the protection line, which had raw LOL or LFA before it or not. -/
def Signalling.afterRecord (wasLost : Bool) (r : InRecord) (c : Signalling) : Signalling :=
  if r.lol || r.lfa then (if wasLost then c else { c with tracker := Tracker.initial })
  else if r.pcwValid && countableWord r.word then c.receive r.word
  else c

/-- R73: a change of the accepted word forms the flag when the word was received, and leaves all else of the signalling. -/
theorem State.acceptedChange_signalling (g : GroupIx) (y : Group) (s : State) : (s.acceptedChange g y).signalling g =
    some { y.signalling with mismatch := if y.tracker.received then y.mismatchOf y.tracker.accepted else y.mismatch } := by
  unfold State.acceptedChange
  rw [State.testTrial_sameSignalling g _ g, State.formEffective_sameSignalling g _ g]
  exact (SameSignalling.ite (.refl _) (State.handAlarm_sameSignalling _ _ _) g).trans (State.signalling_setGroup_same s g _)

theorem State.receiveWord_signalling (w : Word16) (hx : s.group g = some x) :
    (s.receiveWord g w).signalling g = some (if countableWord w then x.signalling.receive w else x.signalling) := by
  simp only [State.receiveWord, hx]
  split
  · by_cases ha : (x.tracker.count w).accepts w = true
    · rw [if_pos ha]
      exact (State.acceptedChange_signalling g _ s).trans (congrArg some (if_pos ha).symm)
    · rw [if_neg ha]
      exact (State.signalling_setGroup_same s g _).trans (congrArg some (if_neg ha).symm)
  · exact State.signalling_of_group hx

theorem State.resetTracker_signalling (hx : s.group g = some x) :
    (s.resetTracker g).signalling g = some { x.signalling with tracker := Tracker.initial } := by
  simp only [State.resetTracker, hx]
  split
  · exact State.signalling_setGroup_same s g _
  · exact State.acceptedChange_signalling g _ s

theorem State.handWord_signalling (old : Line) (r : InRecord) (hrole : s.prot.role l = .protection g) (hx : s.group g = some x)
    (hlost : (s.line l).lost = (r.lol || r.lfa)) :
    (s.handWord l old r).signalling g = some (x.signalling.afterRecord old.lost r) := by
  have same := State.signalling_of_group hx
  simp only [State.handWord, hrole, hlost, Signalling.afterRecord]
  split
  · split
    · exact same
    · exact State.resetTracker_signalling hx
  · cases r.pcwValid
    · exact same
    · exact (State.receiveWord_signalling r.word hx).trans (by simp only [Bool.true_and])

theorem State.goodRecord_signalling (r : InRecord) (hrole : s.prot.role l = .protection g) (hx : s.group g = some x) :
    (s.goodRecord l r).signalling g = some (x.signalling.afterRecord (s.line l).lost r) := by
  have before : SameSignalling s ((s.changeLine l (Line.good r)).handSelector l (s.line l)) :=
    (State.changeLine_sameSignalling l _ s).trans (State.handSelector_sameSignalling l _ _)
  obtain ⟨y, hy, hyx⟩ := State.group_of_signalling ((before g).trans (State.signalling_of_group hx))
  have hlost : (((s.changeLine l (Line.good r)).handSelector l (s.line l)).line l).lost = (r.lol || r.lfa) := by
    rw [State.handSelector_line, State.changeLine_line, Line.good_lost]
  calc (s.goodRecord l r).signalling g
      = ((State.handSelector l (s.line l) (s.changeLine l (Line.good r))).handWord l (s.line l) r).signalling g :=
        State.handQuality_sameSignalling l _ _ g
    _ = some (y.signalling.afterRecord (s.line l).lost r) := State.handWord_signalling _ r ((before.role l).trans hrole) hy hlost
    _ = some (x.signalling.afterRecord (s.line l).lost r) := by rw [hyx]

/-- R3, R59: a protection line has no channel, so its record neither counts for a hold-off nor ends one. -/
theorem State.inboundRecord_protection (record : Vector Byte 7) (hrole : s.prot.role l = .protection g) :
    s.inboundRecord l record = State.processRecord l record
      { s with scan := { s.scan with next := nextSlot l }, fired := s.fired.filter (· != .scanStart) } := by
  simp [State.inboundRecord, State.countRecord, State.recordEndsHoldOff, hrole]

/-- R70 to R73: a record on the protection line of a group, good or bad, and the group's signalling. -/
theorem State.inboundRecord_signalling (record : Vector Byte 7) (hrole : s.prot.role l = .protection g)
    (hx : s.group g = some x) :
    (s.inboundRecord l record).signalling g = some (if Machine.goodRecord record
      then x.signalling.afterRecord (s.line l).lost (readRecord record) else x.signalling) := by
  rw [State.inboundRecord_protection record hrole]
  unfold State.processRecord
  split
  · exact State.goodRecord_signalling _ hrole hx
  · exact (State.changeLine_sameSignalling l _ _ g).trans (State.signalling_of_group hx)

/-! ### The tests of R70, R71 and R73 in the words of the manual -/

theorem foldl_toNat_eq_filter_length {α : Type} (p : α → Bool) (xs : List α) (n : Nat) :
    xs.foldl (fun n i => n + (p i).toNat) n = n + (xs.filter p).length := by
  induction xs generalizing n with
  | nil => rfl
  | cons a xs ih =>
    rw [List.foldl_cons, ih]
    cases ha : p a <;> simp [ha]; omega

theorem Pcw.cls_eq (w : Word16) : Pcw.cls w = w.toNat / 4096 := by
  have hw := w.isLt
  rw [Pcw.cls, BitVec.extractLsb'_toNat, Nat.shiftRight_eq_div_pow]
  omega

/-- R69, R70: the parity is odd, and the class is 0 or 7 to 15. -/
theorem countableWord_iff (w : Word16) : countableWord w = true ↔
    ((List.range 16).filter fun i => w.getLsbD i).length % 2 = 1 ∧ (w.toNat / 4096 = 0 ∨ 7 ≤ w.toNat / 4096) := by
  have hones : wordOnes w = ((List.range 16).filter fun i => w.getLsbD i).length :=
    (foldl_toNat_eq_filter_length _ _ 0).trans (Nat.zero_add _)
  simp [countableWord, oddParity, hones, Pcw.cls_eq]

/-- R71: a counted word becomes the last one, and extends its run or begins a new one. -/
theorem Tracker.count_eq (w : Word16) (t : Tracker) :
    t.count w = ⟨some w, if t.last = some w then min 3 (t.run + 1) else 1, t.accepted, t.received⟩ := by
  unfold Tracker.count
  split
  · next h => rw [← h]
  · rfl

theorem Tracker.accepts_iff (w : Word16) (t : Tracker) :
    t.accepts w = true ↔ t.run = 3 ∧ (t.accepted ≠ w ∨ t.received = false) := by
  simp [Tracker.accepts]

theorem Signalling.receive_of_accepts {w : Word16} {c : Signalling} (h : (c.tracker.count w).accepts w = true) :
    (c.receive w).tracker = ⟨some w, 3, w, true⟩ ∧
    ((c.receive w).mismatch = false ↔ (w.getLsbD 3 = true ↔ c.arch = .oneToN) ∧ w.getLsbD 2 = c.bidir) := by
  have hrun := ((Tracker.accepts_iff w _).mp h).1
  have harch : (c.arch == .oneToN) = true ↔ c.arch = .oneToN := beq_iff_eq
  rw [Signalling.receive, if_pos h, ← harch, ← Bool.eq_iff_iff]
  exact ⟨by rw [hrun, Tracker.count_eq], by simp [Pcw.oneToN, Pcw.bidir]⟩

theorem Signalling.receive_of_not_accepts {w : Word16} {c : Signalling} (h : ¬ (c.tracker.count w).accepts w = true) :
    c.receive w = { c with tracker := c.tracker.count w } := if_neg h

section
variable {r : InRecord} {wasLost : Bool} {c : Signalling}

theorem Signalling.afterRecord_newlyLost (h : (r.lol || r.lfa) = true) :
    c.afterRecord false r = { c with tracker := Tracker.initial } := if_pos h

theorem Signalling.afterRecord_stillLost (h : (r.lol || r.lfa) = true) : c.afterRecord true r = c := if_pos h

theorem Signalling.afterRecord_uncounted (h : (r.lol || r.lfa) = false) (hc : ¬ (r.pcwValid && countableWord r.word) = true) :
    c.afterRecord wasLost r = c := by
  rw [Signalling.afterRecord, h, if_neg Bool.false_ne_true, if_neg hc]

theorem Signalling.afterRecord_counted (h : (r.lol || r.lfa) = false) (hc : (r.pcwValid && countableWord r.word) = true) :
    c.afterRecord wasLost r = c.receive r.word := by
  rw [Signalling.afterRecord, h, if_neg Bool.false_ne_true, if_pos hc]

end

end Sys2Proof.Machine

namespace Sys2Proof.Proofs

open Sys2Proof.Machine

/-- Settles O41: the record's effect on the group's signalling (`State.inboundRecord_signalling`), read off case by case. -/
theorem wordAccepted : Obligations.WordAccepted := by
  intro g l record x s hrole hx
  refine ⟨s.inboundRecord l record, rfl, ?_⟩
  obtain ⟨y, hy, hyx⟩ := State.group_of_signalling (State.inboundRecord_signalling record hrole hx)
  refine ⟨y, hy, ?_⟩
  intro r w same lost was cls counts run changes
  have fields {c : Signalling} (h : y.signalling = c) : y.tracker = c.tracker ∧ y.mismatch = c.mismatch :=
    ⟨congrArg Signalling.tracker h, congrArg Signalling.mismatch h⟩
  have counts_iff : (r.pcwValid && countableWord w) = true ↔ counts := by
    rw [Bool.and_eq_true, countableWord_iff]
  have changes_iff : (x.signalling.tracker.count w).accepts w = true ↔ changes := by
    rw [Tracker.accepts_iff, Tracker.count_eq]; rfl
  refine ⟨fun hbad => fields (hyx.trans (if_neg (by simp [hbad]))), fun hgood => ?_⟩
  replace hyx : y.signalling = x.signalling.afterRecord was r := by rw [hyx, if_pos hgood]; rfl
  refine ⟨fun hlost hwas => ?newlyLost, fun hlost hwas => ?stillLost, fun hlost hno => ?uncounted,
    fun hlost hyes hstays => ?unaccepted, fun hlost hyes hchanges => ?accepted⟩
  case newlyLost =>
    rw [hwas, Signalling.afterRecord_newlyLost hlost] at hyx
    exact fields hyx
  case stillLost =>
    rw [hwas, Signalling.afterRecord_stillLost hlost] at hyx
    exact fields hyx
  case uncounted => exact fields (hyx.trans (Signalling.afterRecord_uncounted hlost (mt counts_iff.mp hno)))
  case unaccepted =>
    rw [Signalling.afterRecord_counted hlost (counts_iff.mpr hyes),
      Signalling.receive_of_not_accepts (mt changes_iff.mp hstays), Tracker.count_eq] at hyx
    exact fields hyx
  case accepted =>
    obtain ⟨htracker, hmismatch⟩ := fields (hyx.trans (Signalling.afterRecord_counted hlost (counts_iff.mpr hyes)))
    obtain ⟨tracker_eq, mismatch_iff⟩ := Signalling.receive_of_accepts (changes_iff.mpr hchanges)
    exact ⟨htracker.trans tracker_eq, hmismatch ▸ mismatch_iff⟩

end Sys2Proof.Proofs
end

