-- ==== Sys2Proof/Proofs/GateApplied.lean ====
section
/-!
PROOFS. Proofs/GateApplied.lean: R92 to R98, edges, gates and the activity window. A change of a candidate is handed on to the blocks
above (R99), and of the candidate itself the hand-over only forms effective quality and eligibility again (`changeCand_cand`). So
each command's effect on the candidate is a function of its record: `withReasons` for an edge and for a silent window,
`Candidate.judged` for a completed gate. The proofs use core Lean only, as the model's files do.
-/
namespace Sys2Proof.Machine

variable {s t : State} {c : CandIx} {x : Candidate} {r : Reasons} {n : Nat}

/-! ### The state and the run that follow the reasons (R97) -/

theorem Reasons.isEmpty_iff : r.isEmpty = true ↔ r = Reasons.empty := by
  cases r
  simp [Reasons.isEmpty, Reasons.empty, and_assoc]

theorem Candidate.withReasons_of_ne (h : r ≠ Reasons.empty) :
    x.withReasons r = { x with reasons := r, state := .disqualified, goodRun := 0 } :=
  if_neg (mt Reasons.isEmpty_iff.mp h)

theorem Candidate.withReasons_of_cleared (h : x.reasons ≠ Reasons.empty) :
    x.withReasons Reasons.empty = { x with reasons := Reasons.empty, state := .qualifying, goodRun := 0 } :=
  if_neg (mt Reasons.isEmpty_iff.mp h)

theorem Candidate.withReasons_of_empty (h : x.reasons = Reasons.empty) : x.withReasons Reasons.empty = x :=
  if_pos (Reasons.isEmpty_iff.mpr h)

@[simp] theorem Candidate.withReasons_reasons (r : Reasons) (x : Candidate) : (x.withReasons r).reasons = r := by
  by_cases hr : r = Reasons.empty
  · subst hr
    by_cases hx : x.reasons = Reasons.empty
    · rw [withReasons_of_empty hx, hx]
    · rw [withReasons_of_cleared hx]
  · rw [withReasons_of_ne hr]

@[simp] theorem Candidate.withReasons_lastQ (r : Reasons) (x : Candidate) : (x.withReasons r).lastQ = x.lastQ := by
  simp only [withReasons, apply_ite Candidate.lastQ, ite_self]

@[simp] theorem Candidate.withReasons_gate (r : Reasons) (x : Candidate) : (x.withReasons r).gate = x.gate := by
  simp only [withReasons, apply_ite Candidate.gate, ite_self]

theorem Candidate.withReasons_empty_state (x : Candidate) :
    (x.withReasons Reasons.empty).state = if x.reasons = Reasons.empty then x.state else .qualifying := by
  split <;> rename_i hx
  · rw [withReasons_of_empty hx]
  · rw [withReasons_of_cleared hx]

theorem Candidate.withReasons_empty_goodRun (x : Candidate) :
    (x.withReasons Reasons.empty).goodRun = if x.reasons = Reasons.empty then x.goodRun else 0 := by
  split <;> rename_i hx
  · rw [withReasons_of_empty hx]
  · rw [withReasons_of_cleared hx]

/-- R97: `new` has the reason set `r`, and the state and the good-gate run of `old` have followed it. -/
def Candidate.TakesReasons (old : Candidate) (r : Reasons) (new : Candidate) : Prop :=
  new.reasons = r ∧
    (r ≠ Reasons.empty → new.state = .disqualified ∧ new.goodRun = 0) ∧
    (r = Reasons.empty → old.reasons ≠ Reasons.empty → new.state = .qualifying ∧ new.goodRun = 0) ∧
    (r = Reasons.empty → old.reasons = Reasons.empty → new.state = old.state ∧ new.goodRun = old.goodRun)

theorem Candidate.withReasons_takes (x : Candidate) (r : Reasons) : x.TakesReasons r (x.withReasons r) := by
  refine ⟨withReasons_reasons r x, fun hr => ?_, fun hr hx => ?_, fun hr hx => ?_⟩
  · rw [withReasons_of_ne hr]; exact ⟨rfl, rfl⟩
  · subst hr; rw [withReasons_of_cleared hx]; exact ⟨rfl, rfl⟩
  · subst hr; rw [withReasons_of_empty hx]; exact ⟨rfl, rfl⟩

/-! ### A good gate (R98 case 2) -/

theorem Candidate.goodGate_of_ne (h : x.reasons ≠ Reasons.empty) : x.goodGate n = x :=
  if_neg (mt Reasons.isEmpty_iff.mp h)

theorem Candidate.goodGate_of_empty (h : x.reasons = Reasons.empty) :
    x.goodGate n =
      { x with goodRun := min 15 (x.goodRun + 1)
               state := if x.state = .qualifying ∧ n ≤ min 15 (x.goodRun + 1) then .qualified else x.state } :=
  if_pos (Reasons.isEmpty_iff.mpr h)

@[simp] theorem Candidate.goodGate_reasons (n : Nat) (x : Candidate) : (x.goodGate n).reasons = x.reasons := by
  simp only [goodGate, apply_ite Candidate.reasons, ite_self]

@[simp] theorem Candidate.goodGate_lastQ (n : Nat) (x : Candidate) : (x.goodGate n).lastQ = x.lastQ := by
  simp only [goodGate, apply_ite Candidate.lastQ, ite_self]

@[simp] theorem Candidate.goodGate_gate (n : Nat) (x : Candidate) : (x.goodGate n).gate = x.gate := by
  simp only [goodGate, apply_ite Candidate.gate, ite_self]

/-- R98 case 2 after its step 1 has left a reason: the gate is not counted. -/
theorem Candidate.goodGate_withReasons_of_ne (h : r ≠ Reasons.empty) :
    (x.withReasons r).goodGate n = { x with reasons := r, state := .disqualified, goodRun := 0 } := by
  rw [goodGate_of_ne (by rwa [withReasons_reasons]), withReasons_of_ne h]

/-- R98 case 2 after its step 1 has left no reason: the gate is counted from the run and the state that R97 gives. -/
theorem Candidate.goodGate_withReasons_empty (n : Nat) (x : Candidate) :
    let run := min 15 ((if x.reasons = Reasons.empty then x.goodRun else 0) + 1)
    let state := if x.reasons = Reasons.empty then x.state else .qualifying
    ((x.withReasons Reasons.empty).goodGate n).goodRun = run ∧
      ((x.withReasons Reasons.empty).goodGate n).state = if state = .qualifying ∧ n ≤ run then .qualified else state := by
  rw [goodGate_of_empty (withReasons_reasons _ x)]
  simp only [withReasons_empty_state, withReasons_empty_goodRun, and_self]

/-! ### What the hand-over of a change leaves of a candidate (R99, R100) -/

/-- The candidate with an effective quality and an eligibility formed again. -/
def Candidate.withElig (x : Candidate) (quality : Nat) (eligible : Bool) : Candidate :=
  { x with effQual := quality, eligible := eligible }

/-- R100: two records agree in all but the effective quality and the eligibility. -/
def Candidate.EligFormed (x y : Candidate) : Prop := ∃ quality eligible, y = x.withElig quality eligible

theorem Candidate.EligFormed.refl (x : Candidate) : x.EligFormed x := ⟨x.effQual, x.eligible, rfl⟩

theorem Candidate.goodGate_withElig (n quality : Nat) (eligible : Bool) (x : Candidate) :
    (x.withElig quality eligible).goodGate n = (x.goodGate n).withElig quality eligible := by
  by_cases hx : x.reasons = Reasons.empty
  · rw [goodGate_of_empty hx, goodGate_of_empty (x := x.withElig quality eligible) hx]; rfl
  · rw [goodGate_of_ne hx, goodGate_of_ne (x := x.withElig quality eligible) hx]

theorem State.cand_of_keepsClock (h : Keeps belowClock s t) (c : CandIx) : t.cand c = s.cand c :=
  congrArg (fun m : RefMonitor => m.cands.get c) (h .ref (by decide))

@[simp] theorem State.modCand_cand (s : State) (c : CandIx) (f : Candidate → Candidate) : (s.modCand c f).cand c = f (s.cand c) :=
  State.cand_setCand_same s c _

/-- R106: after the hand-overs, eligibility is formed and the selection made again. -/
theorem State.formElig_reselect_cand (h : Keeps belowClock s t) (c : CandIx) :
    (s.cand c).EligFormed ((t.formElig c).reselect.cand c) := by
  rw [State.cand_of_keepsClock (State.reselect_keeps _), ← State.cand_of_keepsClock h c]
  exact ⟨_, _, State.modCand_cand t c _⟩

theorem State.handOn_cand (s : State) (c : CandIx) (old : Candidate) : (s.cand c).EligFormed ((s.handOn c old).cand c) := by
  simp only [State.handOn]
  split
  · exact .refl _
  · have issued := State.issue_keepsClock s (.refState c (s.cand c).state (s.cand c).reasons (s.cand c).resolved (s.cand c).lastQ)
    refine State.formElig_reselect_cand ?_ c
    exact Keeps.ite (fun _ => issued) fun _ => issued.trans (State.hand_keepsClock _ _ _)

/-- R99: a changed candidate is the change applied, its effective quality and eligibility formed again. -/
theorem State.changeCand_cand (s : State) (c : CandIx) (f : Candidate → Candidate) :
    (f (s.cand c)).EligFormed ((s.changeCand c f).cand c) :=
  State.modCand_cand s c f ▸ State.handOn_cand (s.modCand c f) c (s.cand c)

/-! ### Edges and the activity window (R92, R93) -/

theorem State.startEdge_cand (h : (s.cand c).hasInput = true) :
    Candidate.EligFormed
      { (s.cand c).withReasons { (s.cand c).reasons with activity := false } with window := true, gate := true }
      ((s.startEdge c).cand c) := by
  rw [State.startEdge, if_pos h]
  exact State.changeCand_cand s c _

theorem State.activityExpiry_cand (h : (s.cand c).window = true) :
    Candidate.EligFormed
      { (s.cand c).withReasons { (s.cand c).reasons with activity := true } with window := false, gate := false }
      ((s.activityExpiry c).cand c) := by
  rw [State.activityExpiry, if_pos h]
  exact State.changeCand_cand s c _

/-! ### A completed gate (R95, R98) -/

theorem gateOffset_eq (g n : Nat) :
    gateOffset g n = max (-32767) (min 32767 ((40960000 * 2 ^ g - (n : Int)) * 2 ^ (3 - g))) := by
  simp only [gateOffset, clampInt, Config.fullScale, Int.natCast_mul, Int.natCast_pow, Int.cast_ofNat_Int]

/-- R93, R95: the gate's offset is noted, and the next gate begins at the edge that ends it. -/
def Candidate.nextGate (q : Int) (x : Candidate) : Candidate := { x with lastQ := q, gate := true, window := true }

/-- R98: the candidate's record after a gate of offset `q`, in each of the three cases. -/
def Candidate.judged (m : RefMonitor) (q : Int) (x : Candidate) : Candidate :=
  if m.disqualifyLimit < q.natAbs then x.withReasons { x.reasons with offset := true }
  else if q.natAbs ≤ m.qualifyLimit then (x.withReasons { x.reasons with offset := false }).goodGate m.qualifyCount
  else { x with goodRun := if x.reasons = Reasons.empty then 0 else x.goodRun }

@[simp] theorem Candidate.judged_lastQ (m : RefMonitor) (q : Int) (x : Candidate) : (x.judged m q).lastQ = x.lastQ := by
  simp only [judged, apply_ite Candidate.lastQ, withReasons_lastQ, goodGate_lastQ, ite_self]

@[simp] theorem Candidate.judged_gate (m : RefMonitor) (q : Int) (x : Candidate) : (x.judged m q).gate = x.gate := by
  simp only [judged, apply_ite Candidate.gate, withReasons_gate, goodGate_gate, ite_self]

theorem State.judgeGate_cand (s : State) (c : CandIx) (q : Int) :
    ((s.cand c).judged s.ref q).EligFormed ((s.judgeGate c q).cand c) := by
  unfold State.judgeGate Candidate.judged
  split
  · exact State.changeCand_cand s c _
  split
  · obtain ⟨quality, eligible, hcleared⟩ :=
      State.changeCand_cand s c fun x => x.withReasons { x.reasons with offset := false }
    obtain ⟨quality', eligible', hcounted⟩ := State.changeCand_cand
      (s.changeCand c fun x => x.withReasons { x.reasons with offset := false }) c (Candidate.goodGate s.ref.qualifyCount)
    rw [hcleared, Candidate.goodGate_withElig] at hcounted
    exact ⟨quality', eligible', hcounted⟩
  · rw [State.modCand_cand]
    by_cases hempty : (s.cand c).reasons = Reasons.empty
    · rw [if_pos hempty, if_pos (Reasons.isEmpty_iff.mpr hempty)]; exact .refl _
    · rw [if_neg hempty, if_neg (mt Reasons.isEmpty_iff.mp hempty)]; exact .refl _

/-- R93, R95, R98: the candidate's record after a completed gate; offering Q to the Clock Controller leaves it. -/
theorem State.completeGate_cand (s : State) (c : CandIx) (n : Nat) :
    let q := gateOffset s.ref.gateExp n
    (((s.cand c).nextGate q).judged s.ref q).EligFormed ((s.completeGate c n).cand c) := by
  intro q
  unfold State.completeGate
  rw [State.cand_of_keepsClock (State.offerQ_keeps _ c q)]
  have hjudged := State.judgeGate_cand (s.modCand c (Candidate.nextGate q)) c q
  rwa [State.modCand_cand] at hjudged

end Sys2Proof.Machine

namespace Sys2Proof.Proofs

open Sys2Proof.Machine

/-- Settles O49: the record after each of the three commands (`State.startEdge_cand`, `State.activityExpiry_cand`,
`State.completeGate_cand`), read off case by case. -/
theorem gateApplied : Obligations.GateApplied := by
  intro c count s old follows
  refine ⟨fun hno => ?noInput, fun hinput => ⟨s.startEdge c, rfl, ?edge⟩,
    fun hno => ?noWindow, fun hwindow => ⟨s.activityExpiry c, rfl, ?silence⟩,
    fun hgate => ⟨s.completeGate c count.toNat, congrArg _ (if_pos hgate), ?gate⟩⟩
  case noInput => exact congrArg _ (if_neg (Bool.eq_false_iff.mp hno))
  case noWindow => exact congrArg _ (if_neg (Bool.eq_false_iff.mp hno))
  case edge =>
    obtain ⟨quality, eligible, hnew⟩ := State.startEdge_cand hinput
    rw [hnew]
    exact ⟨Candidate.withReasons_takes old _, rfl, rfl, Candidate.withReasons_lastQ _ old⟩
  case silence =>
    obtain ⟨quality, eligible, hnew⟩ := State.activityExpiry_cand hwindow
    rw [hnew]
    exact ⟨Candidate.withReasons_takes old _, rfl, rfl, Candidate.withReasons_lastQ _ old⟩
  case gate =>
    obtain ⟨quality, eligible, hnew⟩ := State.completeGate_cand s c count.toNat
    rw [gateOffset_eq] at hnew
    intro new d q cleared
    replace hnew : new = ((old.nextGate q).judged s.ref q).withElig quality eligible := hnew
    rw [hnew]
    refine ⟨Candidate.judged_lastQ .., Candidate.judged_gate .., fun hbad => ?bad, fun hle hgood => ?good,
      fun hle hbetween => ?between⟩
    case bad =>
      rw [Candidate.judged, if_pos hbad]
      exact Candidate.withReasons_takes _ _
    case good =>
      have hjudged : (old.nextGate q).judged s.ref q = ((old.nextGate q).withReasons cleared).goodGate s.ref.qualifyCount :=
        (if_neg (Nat.not_lt.mpr hle)).trans (if_pos hgood)
      rw [hjudged]
      refine ⟨(Candidate.goodGate_reasons _ _).trans (Candidate.withReasons_reasons _ _), fun hleft => ?_, fun hnone => ?_⟩
      · rw [Candidate.goodGate_withReasons_of_ne hleft]
        exact ⟨rfl, rfl⟩
      · rw [hnone]
        exact Candidate.goodGate_withReasons_empty s.ref.qualifyCount (old.nextGate q)
    case between =>
      rw [Candidate.judged, if_neg (Nat.not_lt.mpr hle), if_neg (Nat.not_le.mpr hbetween)]
      exact ⟨rfl, rfl, rfl⟩

end Sys2Proof.Proofs
end

