-- ==== Sys2Proof/Proofs/SteeringApplied.lean ====
section
/-!
PROOFS. Proofs/SteeringApplied.lean: R111 to R114, the steering update and the holdover average. The Clock Controller's record after a
Q that steers is one of five: in ACQUIRING the gate is too far off, is counted or locks the loop; in LOCKED it unlocks the loop or
moves the average. Each has its equation (`Clock.applyQ_of_acquiring_far` to `Clock.applyQ_of_locked_near`), and the report of the
record (R119) leaves what the obligation speaks of. The proofs use core Lean only, as the model's files do.
-/
namespace Sys2Proof.Machine

variable {k : Clock} {q : Int} {m : RefMonitor} {c : CandIx}

/-! ### The arithmetic of R112 and R113 -/

/-- R112: Q / 2^n rounded to the nearest, ties away from zero. -/
theorem roundDiv_two_pow (q : Int) (n : Nat) :
    let d : Int := 2 ^ n
    roundDiv q (2 ^ n) = if 0 ≤ q then (2 * q + d) / (2 * d) else -((2 * -q + d) / (2 * d)) := by
  simp only [roundDiv, Int.natCast_pow, Int.cast_ofNat_Int]

/-- R112: the sum is clamped to full scale, and the steer limit stands when that changed it. -/
theorem Clock.steered_eq (k : Clock) (q : Int) :
    let sum := k.steer + roundDiv q (2 ^ k.settings.gainShift)
    let word := max (-32767) (min 32767 sum)
    k.steered q = { k with steer := word, steerLimit := decide (sum ≠ word) } := by
  have bne_eq (a b : Int) : (a != b) = decide (a ≠ b) := Bool.eq_iff_iff.mpr (by rw [bne_iff_ne, decide_eq_true_iff])
  simp only [steered, bne_eq, clampInt, Config.fullScale, Int.cast_ofNat_Int]

/-- R113: H moves toward 256 × S by the difference over 2^a rounded down, and stays within its range. -/
theorem Clock.averaged_average (k : Clock) :
    k.averaged.average = max (-8388352) (min 8388352
      (k.average + (256 * k.steer - k.average) / 2 ^ k.settings.averageShift)) := by
  simp only [averaged, floorDiv, clampInt, Config.holdoverScale, Int.natCast_pow, Int.cast_ofNat_Int]

/-! ### The record after a Q (R111, R113, R114) -/

theorem Clock.recordLocked_of_locked (hloop : k.loop = .locked) (hsel : k.selected = some c) :
    k.recordLocked m = { k with lastLocked := (m.cands.get c).effQual } := by
  simp only [recordLocked, hloop, hsel]

/-- A gate beyond the lock threshold ends the run of good gates. -/
theorem Clock.applyQ_of_acquiring_far (hloop : k.loop = .acquiring) (hq : k.settings.lockThreshold < q.natAbs) :
    k.applyQ m q = { k.steered q with lockRun := 0 } := by
  simp only [applyQ, hloop, if_neg (Nat.not_le.mpr hq)]

/-- A gate within the lock threshold, before the fourth in a row, is counted. -/
theorem Clock.applyQ_of_acquiring_near (hloop : k.loop = .acquiring) (hq : q.natAbs ≤ k.settings.lockThreshold)
    (hrun : k.lockRun < 3) : k.applyQ m q = { k.steered q with lockRun := k.lockRun + 1 } := by
  have hfew : k.lockRun + 1 < 4 := Nat.succ_lt_succ hrun
  simp only [applyQ, hloop, if_pos hq, if_pos hfew]

/-- The fourth gate in a row within the lock threshold locks the loop, and the locked quality is recorded (R116). -/
theorem Clock.applyQ_of_fourth_near (hloop : k.loop = .acquiring) (hsel : k.selected = some c)
    (hq : q.natAbs ≤ k.settings.lockThreshold) (hrun : 3 ≤ k.lockRun) :
    k.applyQ m q =
      { k.steered q with loop := .locked, lockRun := 0, history := 0, lastLocked := (m.cands.get c).effQual } := by
  have hfour : ¬ k.lockRun + 1 < 4 := Nat.not_lt.mpr (Nat.succ_le_succ hrun)
  simp only [applyQ, hloop, if_pos hq, if_neg hfour]
  exact recordLocked_of_locked rfl hsel

/-- A gate beyond the unlock threshold unlocks the loop. -/
theorem Clock.applyQ_of_locked_far (hloop : k.loop = .locked) (hq : k.settings.unlockThreshold < q.natAbs) :
    k.applyQ m q = { k.steered q with loop := .acquiring, lockRun := 0 } := by
  simp only [applyQ, hloop, if_pos hq]

/-- Any other gate in LOCKED moves the average and is counted. -/
theorem Clock.applyQ_of_locked_near (hloop : k.loop = .locked) (hq : q.natAbs ≤ k.settings.unlockThreshold) :
    k.applyQ m q = (k.steered q).averaged := by
  simp only [applyQ, hloop, if_neg (Nat.not_lt.mpr hq)]

/-- In ACQUIRING a Q moves no holdover average. -/
theorem Clock.applyQ_acquiring_frame (hloop : k.loop = .acquiring) (hsel : k.selected = some c) :
    ∃ loop run history quality, k.applyQ m q =
      { k.steered q with loop := loop, lockRun := run, history := history, lastLocked := quality } := by
  obtain hfar | hnear := Nat.lt_or_ge k.settings.lockThreshold q.natAbs
  · exact ⟨_, _, _, _, applyQ_of_acquiring_far hloop hfar⟩
  obtain hfew | hfour := Nat.lt_or_ge k.lockRun 3
  · exact ⟨_, _, _, _, applyQ_of_acquiring_near hloop hnear hfew⟩
  · exact ⟨_, _, _, _, applyQ_of_fourth_near hloop hsel hnear hfour⟩

/-- In LOCKED a Q records no locked quality. -/
theorem Clock.applyQ_locked_frame (hloop : k.loop = .locked) :
    ∃ loop run average history, k.applyQ m q =
      { k.steered q with loop := loop, lockRun := run, average := average, history := history } := by
  obtain hfar | hnear := Nat.lt_or_ge k.settings.unlockThreshold q.natAbs
  · exact ⟨_, _, _, _, applyQ_of_locked_far hloop hfar⟩
  · exact ⟨_, _, _, _, applyQ_of_locked_near hloop hnear⟩

/-- R112: in either state the record takes S and the steer limit of the steering update, and keeps the selection. -/
theorem Clock.applyQ_steered (hsel : k.selected = some c) (hloop : k.loop = .acquiring ∨ k.loop = .locked) :
    (k.applyQ m q).steer = (k.steered q).steer ∧ (k.applyQ m q).steerLimit = (k.steered q).steerLimit ∧
      (k.applyQ m q).selected = some c := by
  obtain hacq | hlocked := hloop
  · obtain ⟨_, _, _, _, hnew⟩ := applyQ_acquiring_frame hacq hsel (m := m) (q := q)
    rw [hnew]; exact ⟨rfl, rfl, hsel⟩
  · obtain ⟨_, _, _, _, hnew⟩ := applyQ_locked_frame hlocked (m := m) (q := q)
    rw [hnew]; exact ⟨rfl, rfl, hsel⟩

/-- R111, R119: the record after a Q that steers, with the quality codes formed and the conditions noted as handed. -/
theorem State.offerQ_clock {s : State} (hsel : s.clock.selected = some c)
    (hloop : s.clock.loop = .acquiring ∨ s.clock.loop = .locked) :
    let new := (s.clock.applyQ s.ref q).formed s.ref
    (s.offerQ c q).clock = { new with handed := clockConds s.ref new } := by
  rw [State.offerQ, if_pos ⟨hsel, hloop⟩]
  exact State.reportClock_clock s _

end Sys2Proof.Machine

namespace Sys2Proof.Proofs

open Sys2Proof.Machine

/-- Settles O51: the record after a Q that steers is `Clock.applyQ` reported (`State.offerQ_clock`), read off case by case. -/
theorem steeringApplied : Obligations.SteeringApplied := by
  intro c q s k steers d delta sum S H
  refine ⟨fun hno => congrArg _ (if_neg hno), fun ⟨hsel, hloop⟩ => ⟨s.offerQ c q, rfl, ?_⟩⟩
  have hsteered : k.steered q = { k with steer := S, steerLimit := decide (sum ≠ S) } := by
    rw [Clock.steered_eq, roundDiv_two_pow]
  obtain ⟨hsteer, hlimit, hselected⟩ := Clock.applyQ_steered (m := s.ref) (q := q) hsel hloop
  rw [hsteered] at hsteer hlimit
  dsimp only
  rw [State.offerQ_clock hsel hloop]
  refine ⟨hsteer, hlimit, hselected, fun hacq => ⟨?average, fun hfar => ?ended, fun hnear hfew => ?counted,
    fun hnear hfour => ?locks⟩, fun hlocked => ⟨fun hfar => ?unlocks, fun hnear => ?moves⟩, State.offerQ_keeps s c q⟩
  case average =>
    obtain ⟨_, _, _, _, hnew⟩ := Clock.applyQ_acquiring_frame hacq hsel (m := s.ref) (q := q)
    rw [hnew]; rfl
  case ended => rw [Clock.applyQ_of_acquiring_far hacq hfar]; exact ⟨hacq, rfl, rfl⟩
  case counted => rw [Clock.applyQ_of_acquiring_near hacq hnear hfew]; exact ⟨hacq, rfl, rfl⟩
  case locks => rw [Clock.applyQ_of_fourth_near hacq hsel hnear hfour]; exact ⟨rfl, rfl, rfl, rfl⟩
  case unlocks => rw [Clock.applyQ_of_locked_far hlocked hfar]; exact ⟨rfl, rfl, rfl, rfl⟩
  case moves =>
    rw [Clock.applyQ_of_locked_near hlocked hnear, hsteered]
    exact ⟨hlocked, Clock.averaged_average _, rfl⟩

end Sys2Proof.Proofs
end
